-- ==== Sys2Proof/Word.lean ====
section
/-!
DEFINITION. The words of the FH416: bytes and wider frame fields, the names of the numbered things
(hosts, lines, watch entries, outputs, record slots) and the sets of them that frames carry, one bit
per member with the lowest-numbered member in the least significant bit (R188).
-/

namespace Sys2Proof

/-- One byte of a frame. -/
abbrev Byte := BitVec 8

/-- A 16-bit count or field. -/
abbrev Half := BitVec 16

/-- A hub time, or any other 32-bit field (R83). -/
abbrev HubTime := BitVec 32

/-- The hosts H0 to H3, and the host ports HP0 to HP3 that belong to them (R173). -/
abbrev HostId := Fin 4

/-- The input lines L0 to L15. -/
abbrev LineId := Fin 16

/-- The watch entries W0 to W15. -/
abbrev WatchId := Fin 16

/-- The output lines O0 to O7. -/
abbrev OutputId := Fin 8

/-- The slots of the record pool (R1). -/
abbrev SlotId := Fin 64

/-- A set of hosts. -/
abbrev HostSet := BitVec 4

/-- A set of input lines, or one level bit for each of them. -/
abbrev LineSet := BitVec 16

/-- A set of outputs, or one level bit for each of them. -/
abbrev OutputSet := BitVec 8

/-- A set of attention causes: ENTRY, THRESHOLD, MISSED, WATCH and SEIZED in bits 0 to 4 (R161). -/
abbrev CauseSet := BitVec 5

end Sys2Proof
end

