-- ==== Sys2Proof/Syntax.lean ====
section
/-!
DEFINITION. The commands of the FH416: one constructor for each row of spec/opcode_table.json.

A request row stands for the completion of the CRC byte of a correct request frame (R180): its
operands are the port, the tag and the payload bytes of that frame. The other rows are events of a
port, of the reset logic, of the reference clock, of an input line, of a watch entry, of an output
or of a supervision timer.
-/

namespace Sys2Proof

/-- What a TICK brings: the tick whole, counted and then handed out, or one of its two parts. Counting is
an event of its own, and a read of hub time at the same tick may come before it or after it (R83, R90):
which, the command says (log 6). `levels` are the raw levels of L0 to L15 sampled at the tick (R60). -/
inductive TickEvent
  /-- The tick is counted and handed out, nothing in between. -/
  | whole (levels : LineSet)
  /-- The tick is handed out, its count still to come. -/
  | handedOut (levels : LineSet)
  /-- The count of the tick that was handed out. -/
  | counted
  deriving DecidableEq, Repr

/-- One command to the block. -/
inductive Instr
  -- requests of the Session Controller (chapter 7)
  | attach (host : HostId) (tag : Byte) (payload : List Byte)
  | detach (host : HostId) (tag : Byte) (payload : List Byte)
  | evict (host : HostId) (tag : Byte) (payload : List Byte)
  | restartHub (host : HostId) (tag : Byte) (payload : List Byte)
  | hubStatus (host : HostId) (tag : Byte) (payload : List Byte)
  | repeatResponse (host : HostId) (tag : Byte) (payload : List Byte)
  | sendNote (host : HostId) (tag : Byte) (payload : List Byte)
  -- requests of the Time Base (chapter 4)
  | readTime (host : HostId) (tag : Byte) (payload : List Byte)
  | adjustTime (host : HostId) (tag : Byte) (payload : List Byte)
  -- requests of the Subscription Table and the Host Queues (chapter 2)
  | subscribeLines (host : HostId) (tag : Byte) (payload : List Byte)
  | subscribeHub (host : HostId) (tag : Byte) (payload : List Byte)
  | readSubscriptions (host : HostId) (tag : Byte) (payload : List Byte)
  | readEvents (host : HostId) (tag : Byte) (payload : List Byte)
  | ackEvents (host : HostId) (tag : Byte) (payload : List Byte)
  | queueStatus (host : HostId) (tag : Byte) (payload : List Byte)
  -- requests of the Line Monitor (chapter 3)
  | lineConfigure (host : HostId) (tag : Byte) (payload : List Byte)
  | lineArm (host : HostId) (tag : Byte) (payload : List Byte)
  | lineDisarm (host : HostId) (tag : Byte) (payload : List Byte)
  | lineRelease (host : HostId) (tag : Byte) (payload : List Byte)
  | lineStatus (host : HostId) (tag : Byte) (payload : List Byte)
  -- requests of the Watch Table (chapter 5)
  | watchInstall (host : HostId) (tag : Byte) (payload : List Byte)
  | watchCancel (host : HostId) (tag : Byte) (payload : List Byte)
  | watchRead (host : HostId) (tag : Byte) (payload : List Byte)
  -- requests of the Output Block (chapter 6)
  | outClaim (host : HostId) (tag : Byte) (payload : List Byte)
  | outRelease (host : HostId) (tag : Byte) (payload : List Byte)
  | outDrive (host : HostId) (tag : Byte) (payload : List Byte)
  | outPulse (host : HostId) (tag : Byte) (payload : List Byte)
  | outBind (host : HostId) (tag : Byte) (payload : List Byte)
  | outUnbind (host : HostId) (tag : Byte) (payload : List Byte)
  | outSeize (host : HostId) (tag : Byte) (payload : List Byte)
  | outSafe (host : HostId) (tag : Byte) (payload : List Byte)
  | outStatus (host : HostId) (tag : Byte) (payload : List Byte)
  -- requests of the Attention Unit (chapter 8)
  | setAttention (host : HostId) (tag : Byte) (payload : List Byte)
  | clearAttention (host : HostId) (tag : Byte) (payload : List Byte)
  /-- A correct request frame whose command code is not in the table (R183). -/
  | unknownCommand (host : HostId) (code : Byte) (tag : Byte) (payload : List Byte)
  -- the other frame events of a port (chapter 9)
  /-- The CRC byte completes with the wrong value `crc` (R179). -/
  | frameError (host : HostId) (crc : Byte)
  /-- The length byte completes with the value `length`, above 200 (R176). -/
  | frameRefusedForLength (host : HostId) (length : Byte)
  /-- Select rises before the CRC byte has completed (R177). -/
  | frameDiscarded (host : HostId)
  /-- The last byte of the response has been sent (R181). -/
  | responseSent (host : HostId)
  -- resets; `straps`, `levels` and `selects` are the pins at the end of the reset (R139, R78, R187)
  | powerOnReset (straps : HostSet) (levels : LineSet) (selects : HostSet)
  | externalReset (straps : HostSet) (levels : LineSet) (selects : HostSet)
  -- the Time Base; `levels` of TIME_WRAP are the raw levels sampled, where it is the whole tick
  | tick (event : TickEvent)
  | timeWrap (levels : LineSet)
  -- events that fall due at a tick
  | qualificationStart (line : LineId)
  | glitch (line : LineId)
  | qualifiedEdge (line : LineId)
  | checkExpiry (entry : WatchId)
  | pulseExpiry (output : OutputId)
  | supervisionExpiry (host : HostId)
  -- select and byte events of a port (R174)
  | selectFalls (host : HostId)
  | selectRises (host : HostId)
  /-- A byte completes with the value `byte` on SDI (R174, R175, R181). -/
  | byteCompletes (host : HostId) (byte : Byte)
  deriving DecidableEq, Repr

end Sys2Proof
end

