-- ==== Sys2Proof/Config.lean ====
section
/-!
DEFINITION. What the manual leaves open and the machine goes on with: free values, constants without
a body, of which nothing can be proved. Each is read at the counter `State.draws`, which every
reading advances.
-/

namespace Sys2Proof

/-- Whether the response is ready at a byte clocked in ANSWERING before START has been sent and
before 4 µs have surely passed. R181 bounds the wait by 4 µs and says no more (log 9). -/
opaque Config.responseReady : Nat → Bool

/-- How many of the REFLEX_FIRED offers of one reported edge the pool takes before the line's own
offer or fold. R73 and R127 leave the interleaving open (log 8). -/
opaque Config.reflexOffersFirst : Nat → Nat

end Sys2Proof
end

