-- ==== Sys2Proof/Machine/State.lean ====
section
/-!
DEFINITION. The state of the FH416 as plain data, the reasons a command can stop, and the machine
right after power-on reset. Each field names the rule of spec/ that gives it; a field marked "model"
is the model's own (INVENTORY.md, State).
-/

namespace Sys2Proof.Machine

/-- The level of a line or an output. -/
inductive Level
  | low | high
  deriving DecidableEq, Repr

/-- The kind of an edge: RISE or FALL (R59). -/
inductive EdgeKind
  | rise | fall
  deriving DecidableEq, Repr

/-! ### Record Pool (chapter 1) -/

/-- The thirteen record kinds (R5). -/
inductive Kind
  | lineRise | lineFall | watchMatch | watchTimeout | note
  | hostAttached | hostDetached | hostLost | hostEvicted
  | timeWrap | timeAdjusted | outputSeized | reflexFired
  deriving DecidableEq, Repr

/-- The source of a record (R3). -/
inductive Source
  | line (l : LineId) | watch (w : WatchId) | host (h : HostId) | hub | output (o : OutputId)
  deriving DecidableEq, Repr

/-- The detail fields of a record (R6 to R11). READ_EVENTS encodes them as bytes (R189). -/
inductive Detail
  /-- Snapshot, and the fold count once an edge has been folded (R6). -/
  | line (snapshot : LineSet) (foldCount : Option Half)
  /-- Tag, sample and checks made (R7). -/
  | watch (tag : Byte) (sample : LineSet) (checks : Half)
  /-- The note's bytes as sent (R8). -/
  | note (payload : List Byte)
  /-- The subject's session number (R9). -/
  | session (number : Byte)
  /-- The subject's session number and the evicting host (R9). -/
  | evicted (number : Byte) (evictor : HostId)
  /-- The epoch after the wrap (R10). -/
  | wrap (epoch : Half)
  /-- The offset applied and the adjusting host (R10). -/
  | adjusted (offset : HubTime) (adjuster : HostId)
  /-- The seizing host (R11). -/
  | seized (seizer : HostId)
  /-- The source line and the level driven (R11). -/
  | reflex (line : LineId) (level : Level)
  deriving DecidableEq, Repr

/-- A record in use (R3). -/
structure Record where
  seq : Half
  kind : Kind
  source : Source
  timestamp : HubTime
  detail : Detail
  /-- The hosts whose queues hold an entry for the record (R2). -/
  holders : HostSet
  /-- SHOWN if set, OPEN if clear (R1). -/
  shown : Bool
  /-- The line and kind whose fold target the record is (R3). -/
  foldTarget : Option (LineId × EdgeKind)
  deriving DecidableEq, Repr

/-! ### Subscription Table and Host Queues (chapter 2) -/

/-- One host's row of the Subscription Table (R30): its line kind sets as a rise and a fall line set,
and its hub class set. -/
structure Subscription where
  rise : LineSet
  fall : LineSet
  session : Bool
  time : Bool
  deriving DecidableEq, Repr

/-- An entry of a host queue (R36). -/
structure Entry where
  /-- The record reference: the slot of the record. -/
  slot : SlotId
  missedBefore : Half
  deriving DecidableEq, Repr

/-- A host queue (R36), the oldest entry first. -/
structure Queue where
  entries : List Entry
  pendingMisses : Half
  missedTotal : Half
  threshold : Byte
  deriving DecidableEq, Repr

/-! ### Line Monitor (chapter 3) -/

/-- The sense of a line (R59). -/
inductive Sense
  | rise | fall | both
  deriving DecidableEq, Repr

/-- The capture policy of a line (R59). -/
inductive Policy
  | each | first | latest
  deriving DecidableEq, Repr

/-- The state of a line (R59, section 3.3). -/
inductive LineState
  | unset | disarmed | armed | disarming
  deriving DecidableEq, Repr

/-- A qualification in progress (R60). -/
structure Qualification where
  t0 : HubTime
  /-- The filter time F fixed at its start. -/
  filter : BitVec 12
  /-- Model: the ticks handed out since its start (R62 counts them). -/
  elapsed : Nat
  deriving DecidableEq, Repr

/-- What the Line Monitor holds for one line (R59). -/
structure Line where
  state : LineState
  owner : Option HostId
  sense : Sense
  filter : BitVec 12
  policy : Policy
  settled : Level
  qualification : Option Qualification
  lastRise : Option HubTime
  lastFall : Option HubTime
  edges : Half
  glitches : Half
  foldRise : Option SlotId
  foldFall : Option SlotId
  deriving DecidableEq, Repr

/-! ### Watch Table (chapter 5) -/

/-- The state of a watch entry (R94). -/
inductive WatchState
  | free | waiting | confirming | rearming
  deriving DecidableEq, Repr

/-- The mode of a watch entry: ONCE or REPEAT (R94). -/
inductive WatchMode
  | once | repeating
  deriving DecidableEq, Repr

/-- One watch entry (R94). -/
structure Watch where
  state : WatchState
  owner : Option HostId
  tag : Byte
  mask : LineSet
  pattern : LineSet
  /-- The period P, in units of 100 µs. -/
  period : Half
  /-- The confirm count K. -/
  confirm : Byte
  /-- The deadline D, 0 for none. -/
  deadline : Half
  mode : WatchMode
  notify : HostSet
  checks : Half
  consecutive : Byte
  /-- Ticks to next check. -/
  ticks : Nat
  deriving DecidableEq, Repr

/-- A FREE entry: no owner and every other field 0 (R94). -/
def Watch.blank : Watch where
  state := .free
  owner := none
  tag := 0
  mask := 0
  pattern := 0
  period := 0
  confirm := 0
  deadline := 0
  mode := .once
  notify := 0
  checks := 0
  consecutive := 0
  ticks := 0

/-! ### Output Block (chapter 6) -/

/-- A count of ticks that ends in an expiry (R115, R138). -/
structure Countdown where
  /-- Ticks remaining, 1 or more. -/
  remaining : Nat
  /-- Model: the count has reached 0 at this tick and its expiry is to be taken (log 7). -/
  due : Bool
  deriving DecidableEq, Repr

/-- A pulse in flight (R115). -/
structure Pulse where
  level : Level
  returnLevel : Level
  count : Countdown
  deriving DecidableEq, Repr

/-- A reflex binding (R115). -/
structure Binding where
  line : LineId
  kind : EdgeKind
  level : Level
  deriving DecidableEq, Repr

/-- What the Output Block holds for one output (R115). The pin follows the drive level. -/
structure Output where
  owner : Option HostId
  drive : Level
  safe : Level
  pulse : Option Pulse
  binding : Option Binding
  deriving DecidableEq, Repr

/-! ### Session Controller (chapter 7) -/

/-- The session state of a host (R138). -/
inductive SessionState
  | detached | attached | lost
  deriving DecidableEq, Repr

/-- The privilege of a host port (R138, R139). -/
inductive Privilege
  | ordinary | supervisor
  deriving DecidableEq, Repr

/-- Why a host was LOST (R138). -/
inductive LossReason
  | noLoss | timeout | evicted
  deriving DecidableEq, Repr

/-- What the Session Controller holds for one host (R138). -/
structure Session where
  state : SessionState
  privilege : Privilege
  /-- The supervision period, in units of 10 ms. -/
  period : Byte
  /-- The supervision timer: none while it is stopped. -/
  timer : Option Countdown
  number : Byte
  notice : Bool
  loss : LossReason
  deriving DecidableEq, Repr

/-- The kind of the most recent reset (R138). -/
inductive ResetCause
  | powerOn | external | soft
  deriving DecidableEq, Repr

/-! ### Attention Unit (chapter 8) -/

/-- What the Attention Unit holds for one host (R161), and its output. -/
structure Attention where
  posted : CauseSet
  enabled : CauseSet
  /-- The attention output HPn_ATN_N is driven low (R164). -/
  asserted : Bool
  deriving DecidableEq, Repr

/-! ### Host Ports (chapter 9) -/

/-- The statuses of a response (R188). -/
inductive Status
  | ok | notAttached | lost | alreadyAttached | privilege | notOwner | held | badState | badArg
  | noEntry | mismatch | poolFull | tableFull | busy | noTarget | unknownCommand | frameError
  deriving DecidableEq, Repr

/-- A response (R173): what a port stores and sends. -/
structure Response where
  status : Status
  tag : Byte
  takenAt : HubTime
  payload : List Byte
  deriving DecidableEq, Repr

/-- The receiver of a port (R174), with what each of its states holds. -/
inductive Receiver
  | deselected
  /-- The bytes of the frame in progress, oldest first, and the running CRC (R173). -/
  | receiving (bytes : List Byte) (crc : Byte)
  | skipping
  /-- `ready`: START has been sent. `rest`: the bytes still to be sent, START among them while it has
  not been. `age`: model: the ticks handed out since the taking (R181). -/
  | answering (ready : Bool) (rest : List Byte) (age : Nat)
  | finished
  deriving DecidableEq, Repr

/-- What one host port holds (R173), and its pins. -/
structure Port where
  /-- The pin HPn_SEL_N is low. -/
  selectLow : Bool
  receiver : Receiver
  /-- The byte SDO carried while the latest byte of this select period was clocked in; none while SDO
  is not driven (R174). -/
  sdo : Option Byte
  stored : Option Response
  discarded : Byte
  frameErrors : Byte
  deriving DecidableEq, Repr

/-! ### The whole machine -/

/-- The state of the FH416. -/
structure State where
  /-- Record Pool: none is a FREE slot (R1). -/
  slots : Vector (Option Record) 64
  /-- Next-sequence counter (R4). -/
  nextSeq : Half
  /-- Exhaustion count (R26). -/
  exhaustion : Half
  subscriptions : Vector Subscription 4
  queues : Vector Queue 4
  lines : Vector Line 16
  /-- The raw levels of L0 to L15 sampled at the latest tick (R60). -/
  sample : LineSet
  hubTime : HubTime
  epoch : Half
  /-- Model: a tick has been handed out and its count is still to be made
  (R83, R84, log 6). -/
  countOwed : Bool
  watches : Vector Watch 16
  outputs : Vector Output 8
  sessions : Vector Session 4
  resetCause : ResetCause
  attention : Vector Attention 4
  ports : Vector Port 4
  /-- Model: how many free values have been read (Config). -/
  draws : Nat
  /-- Model: the commands that wait, the first to be taken at the head. -/
  pending : List Instr
  deriving DecidableEq, Repr

/-- The block has no fault state: what the spec calls an error is a status (R182), a count (R186) or a
lost session (R145). No command raises a fault. -/
inductive Fault
  deriving DecidableEq, Repr

/-- Why a command has no outcome. All but the first are safe: each stands where the spec says that
the event cannot come in that state, so nothing is claimed of it (log 3). -/
inductive Refusal
  /-- A command without a meaning yet (raised by exec's arm alone). Safe. -/
  | notModelled (mnemonic : String)
  /-- A request row, UNKNOWN_COMMAND or FRAME_ERROR whose port is not RECEIVING the end of that frame:
  its CRC byte cannot complete (R174, R175). Safe. -/
  | frameNotReceived
  /-- A fall of a select that is low, a length refusal, a discard or an end of response that R174, R176
  and R177 say cannot reach the port as it stands. Safe. -/
  | cannotReachPort
  /-- An event of a line, a watch entry, a pulse, a timer, a count or a wrap that has not come due.
  Safe. -/
  | notDue
  /-- A tick while an event or the count of the tick before is still to be taken. Safe. -/
  | eventsDue
  deriving DecidableEq, Repr

/-! ### Reset -/

/-- A line after power-on reset, its input LOW (R78). -/
def Line.initial : Line where
  state := .unset
  owner := none
  sense := .both
  filter := 0
  policy := .each
  settled := .low
  qualification := none
  lastRise := none
  lastFall := none
  edges := 0
  glitches := 0
  foldRise := none
  foldFall := none

/-- The machine right after power-on reset, with every strap low, every input LOW and every select
high (R28, R57, R78, R93, R113, R135, R160, R171, R186, R187; DESIGN CHOICE for the pins, log 1). -/
def State.reset : State where
  slots := Vector.replicate 64 none
  nextSeq := 0
  exhaustion := 0
  subscriptions := Vector.replicate 4 { rise := 0, fall := 0, session := false, time := false }
  queues := Vector.replicate 4 { entries := [], pendingMisses := 0, missedTotal := 0, threshold := 1 }
  lines := Vector.replicate 16 Line.initial
  sample := 0
  hubTime := 0
  epoch := 0
  countOwed := false
  watches := Vector.replicate 16 Watch.blank
  outputs := Vector.replicate 8
    { owner := none, drive := .low, safe := .low, pulse := none, binding := none }
  sessions := Vector.replicate 4
    { state := .detached, privilege := .ordinary, period := 0, timer := none, number := 0,
      notice := true, loss := .noLoss }
  resetCause := .powerOn
  attention := Vector.replicate 4 { posted := 0, enabled := 0, asserted := true }
  ports := Vector.replicate 4
    { selectLow := false, receiver := .deselected, sdo := none, stored := none, discarded := 0,
      frameErrors := 0 }
  draws := 0
  pending := []

end Sys2Proof.Machine
end

