-- ==== Sys2Proof/Machine/Operands.lean ====
section
/-!
DEFINITION. The operand forms of the frames: how payload bytes give fields, and how fields give
payload bytes (section 9.8, R188, R189). Multi-byte fields go most significant byte first.
-/

namespace Sys2Proof.Machine

/-! ### Fields from bytes -/

/-- A 2-byte field, most significant byte first (R188). -/
def half (hi lo : Byte) : Half := hi ++ lo

/-- A 4-byte field, most significant byte first (R188). -/
def word (b3 b2 b1 b0 : Byte) : HubTime := b3 ++ b2 ++ b1 ++ b0

/-- A byte that numbers one of `n` things, if it is below `n`. -/
def numbered (n : Nat) (b : Byte) : Option (Fin n) :=
  if h : b.toNat < n then some ⟨b.toNat, h⟩ else none

/-- A host set byte: bits 4 to 7 must be clear (R96, R155). -/
def hostSet? (b : Byte) : Option HostSet :=
  if b &&& 0xF0#8 = 0#8 then some (b.setWidth 4) else none

/-- A cause set byte: bits 5 to 7 must be clear (R161). -/
def causeSet? (b : Byte) : Option CauseSet :=
  if b &&& 0xE0#8 = 0#8 then some (b.setWidth 5) else none

/-- A level byte: 0 LOW, 1 HIGH (R121, R124). -/
def level? (b : Byte) : Option Level :=
  if b = 0#8 then some .low else if b = 1#8 then some .high else none

/-- An edge kind byte: 1 RISE, 2 FALL (R124). -/
def edgeKind? (b : Byte) : Option EdgeKind :=
  if b = 1#8 then some .rise else if b = 2#8 then some .fall else none

/-- A sense byte: 1 RISE, 2 FALL, 3 BOTH (R65). -/
def sense? (b : Byte) : Option Sense :=
  if b = 1#8 then some .rise else if b = 2#8 then some .fall
  else if b = 3#8 then some .both else none

/-- A policy byte: 0 EACH, 1 FIRST, 2 LATEST (R65). -/
def policy? (b : Byte) : Option Policy :=
  if b = 0#8 then some .each else if b = 1#8 then some .first
  else if b = 2#8 then some .latest else none

/-- A filter time field, 0 to 4095 (R65). -/
def filterTime? (f : Half) : Option (BitVec 12) :=
  if f.toNat ≤ 4095 then some (f.setWidth 12) else none

/-- A watch mode byte: 0 ONCE, 1 REPEAT (R96). -/
def watchMode? (b : Byte) : Option WatchMode :=
  if b = 0#8 then some .once else if b = 1#8 then some .repeating else none

/-! ### Bytes from fields -/

/-- The bytes of a 2-byte field. -/
def halfBytes (x : Half) : List Byte := [x.extractLsb' 8 8, x.extractLsb' 0 8]

/-- The bytes of a 4-byte field. -/
def wordBytes (x : HubTime) : List Byte :=
  [x.extractLsb' 24 8, x.extractLsb' 16 8, x.extractLsb' 8 8, x.extractLsb' 0 8]

/-- A number below 256 as a byte. -/
def numberByte (n : Nat) : Byte := BitVec.ofNat 8 n

/-- A count of ticks as a 4-byte field (R110, R133). -/
def ticksBytes (n : Nat) : List Byte := wordBytes (BitVec.ofNat 32 n)

/-- A flag as a byte, 1 when set. -/
def flagByte (b : Bool) : Byte := if b then 1#8 else 0#8

/-- A host set as a byte (R188). -/
def hostSetByte (s : HostSet) : Byte := s.setWidth 8

/-- A cause set as a byte, bits 5 to 7 clear (R161). -/
def causeSetByte (s : CauseSet) : Byte := s.setWidth 8

/-- An owner field: 0 to 3 for H0 to H3, 0xFF for none (R75, R110, R133). -/
def ownerByte : Option HostId → Byte
  | some h => numberByte h.val
  | none => 0xFF#8

/-- A hub time that may be absent, 0 when it is (R75). -/
def timeBytes (t : Option HubTime) : List Byte := wordBytes (t.getD 0)

/-- 1 HIGH, 0 LOW. -/
def Level.bit : Level → Bool
  | .low => false
  | .high => true

/-- The level byte of a REFLEX_FIRED detail (R189). -/
def Level.byte (l : Level) : Byte := flagByte l.bit

/-- The level of a bit: HIGH when set. -/
def Level.ofBit (b : Bool) : Level := if b then .high else .low

/-- The other of the two levels. -/
def Level.other : Level → Level
  | .low => .high
  | .high => .low

def Sense.byte : Sense → Byte
  | .rise => 1#8
  | .fall => 2#8
  | .both => 3#8

def Policy.byte : Policy → Byte
  | .each => 0#8
  | .first => 1#8
  | .latest => 2#8

/-- R75. -/
def LineState.byte : LineState → Byte
  | .unset => 0#8
  | .disarmed => 1#8
  | .armed => 2#8
  | .disarming => 3#8

/-- R110. -/
def WatchState.byte : WatchState → Byte
  | .free => 0#8
  | .waiting => 1#8
  | .confirming => 2#8
  | .rearming => 3#8

/-- R110. -/
def WatchMode.byte : WatchMode → Byte
  | .once => 0#8
  | .repeating => 1#8

/-- R154, field 2. -/
def SessionState.code : SessionState → BitVec 2
  | .detached => 0#2
  | .attached => 1#2
  | .lost => 2#2

/-- R142, R154. -/
def Privilege.byte : Privilege → Byte
  | .ordinary => 0#8
  | .supervisor => 1#8

/-- R154, field 5. -/
def LossReason.byte : LossReason → Byte
  | .noLoss => 0#8
  | .timeout => 1#8
  | .evicted => 2#8

/-- R154, field 1. -/
def ResetCause.byte : ResetCause → Byte
  | .powerOn => 0#8
  | .external => 1#8
  | .soft => 2#8

/-- The status code table (R188). -/
def Status.code : Status → Byte
  | .ok => 0x00#8
  | .notAttached => 0x01#8
  | .lost => 0x02#8
  | .alreadyAttached => 0x03#8
  | .privilege => 0x04#8
  | .notOwner => 0x05#8
  | .held => 0x06#8
  | .badState => 0x07#8
  | .badArg => 0x08#8
  | .noEntry => 0x09#8
  | .mismatch => 0x0A#8
  | .poolFull => 0x0B#8
  | .tableFull => 0x0C#8
  | .busy => 0x0D#8
  | .noTarget => 0x0E#8
  | .unknownCommand => 0x0F#8
  | .frameError => 0x10#8

/-- The kind code table (R189). -/
def Kind.code : Kind → Byte
  | .lineRise => 0x01#8
  | .lineFall => 0x02#8
  | .watchMatch => 0x03#8
  | .watchTimeout => 0x04#8
  | .note => 0x05#8
  | .hostAttached => 0x06#8
  | .hostDetached => 0x07#8
  | .hostLost => 0x08#8
  | .hostEvicted => 0x09#8
  | .timeWrap => 0x0A#8
  | .timeAdjusted => 0x0B#8
  | .outputSeized => 0x0C#8
  | .reflexFired => 0x0D#8

/-- The source code table (R189). -/
def Source.code : Source → Byte
  | .line l => numberByte l.val
  | .watch w => numberByte (0x10 + w.val)
  | .host h => numberByte (0x20 + h.val)
  | .hub => 0x30#8
  | .output o => numberByte (0x40 + o.val)

/-- The detail bytes of a record, by kind (R189). -/
def Detail.bytes : Detail → List Byte
  | .line snapshot none => halfBytes snapshot
  | .line snapshot (some n) => halfBytes snapshot ++ halfBytes n
  | .watch tag sample checks => tag :: (halfBytes sample ++ halfBytes checks)
  | .note payload => payload
  | .session number => [number]
  | .evicted number evictor => [number, numberByte evictor.val]
  | .wrap epoch => halfBytes epoch
  | .adjusted offset adjuster => wordBytes offset ++ [numberByte adjuster.val]
  | .seized seizer => [numberByte seizer.val]
  | .reflex source level => [numberByte source.val, level.byte]

/-- An event entry of a READ_EVENTS response (R189): the record's fields and the entry's own
missed-before count. -/
def entryBytes (r : Record) (missedBefore : Half) : List Byte :=
  halfBytes r.seq ++ [r.kind.code, r.source.code] ++ wordBytes r.timestamp ++ halfBytes missedBefore
    ++ [numberByte r.detail.bytes.length] ++ r.detail.bytes

/-! ### Counts and sets -/

/-- A count that saturates stops at its largest value (Conventions, 00_scope.md). -/
def saturate {w : Nat} (x : BitVec w) : BitVec w :=
  if x = BitVec.allOnes w then x else x + 1#w

/-- Membership: the bit of member `i` (R188). -/
def holds {n : Nat} (s : BitVec n) (i : Fin n) : Bool := s.getLsbD i.val

/-- The set of the members that satisfy `p`. -/
def setOf {n : Nat} (p : Fin n → Bool) : BitVec n := BitVec.ofFnLE p

/-- The set of one member. -/
def single {n : Nat} (i : Fin n) : BitVec n := setOf fun j => j == i

/-- The set without one member. -/
def without {n : Nat} (s : BitVec n) (i : Fin n) : BitVec n := s &&& ~~~(single i)

/-- The members of a set, in ascending order. -/
def members {n : Nat} (s : BitVec n) : List (Fin n) := (List.finRange n).filter fun i => holds s i

/-! ### The CRC of a frame -/

/-- One bit of the CRC-8 of R178, `i` bits below the top of the byte: polynomial 0x07. -/
def crcBit (b : Byte) (crc : Byte) (i : Nat) : Byte :=
  if crc.getLsbD 7 != b.getLsbD (7 - i) then (crc <<< 1) ^^^ 0x07#8 else crc <<< 1

/-- The CRC register after one more byte, taken from its most significant bit (R178). -/
def crcByte (crc : Byte) (b : Byte) : Byte :=
  [0, 1, 2, 3, 4, 5, 6, 7].foldl (crcBit b) crc

/-- The CRC-8 of a list of bytes, from an initial value of 0 (R178). -/
def crc8 (bytes : List Byte) : Byte := bytes.foldl crcByte 0#8

/-- IDLE on SDO (R174). -/
def idleByte : Byte := 0xFF#8

/-- WAIT on SDO (R174). -/
def waitByte : Byte := 0x00#8

/-- START on SDO (R174). -/
def startByte : Byte := 0x5A#8

/-- The response frame after START, less its CRC (R188). -/
def Response.covered (r : Response) : List Byte :=
  [r.status.code, r.tag] ++ wordBytes r.takenAt ++ [numberByte r.payload.length] ++ r.payload

/-- The bytes of a response on SDO: START, the response, its CRC, which does not cover START
(R181, R188). -/
def Response.frame (r : Response) : List Byte := startByte :: (r.covered ++ [crc8 r.covered])

/-- The bytes of a request frame before its CRC (R175). -/
def requestBytes (code tag : Byte) (payload : List Byte) : List Byte :=
  code :: tag :: numberByte payload.length :: payload

end Sys2Proof.Machine
end

