-- ==== Sys2Proof/Machine/Flags.lean ====
section
/-!
DEFINITION. The flags the spec computes from the state: the condition of an attention output (R164),
the flag bytes of LINE_STATUS (R75) and OUT_STATUS (R133), and the due conditions of the events that
a tick brings.
-/

namespace Sys2Proof.Machine

/-! ### Attention (R161, R164) -/

/-- The attention causes (R161). -/
inductive Cause
  | entry | threshold | missed | watch | seized
  deriving DecidableEq, Repr

/-- The cause set that holds one cause (R161). -/
def Cause.set : Cause → CauseSet
  | .entry => 0x01#5
  | .threshold => 0x02#5
  | .missed => 0x04#5
  | .watch => 0x08#5
  | .seized => 0x10#5

/-- Whether a host's attention output is to be asserted: it is ATTACHED with a cause both posted and
enabled, or it is not ATTACHED with its notice flag set (R164). -/
def attentionCondition (x : Session) (a : Attention) : Bool :=
  if x.state = .attached then a.posted &&& a.enabled != 0#5 else x.notice

/-- The output evaluated again (R164). -/
def Attention.evaluate (a : Attention) (x : Session) : Attention :=
  { a with asserted := attentionCondition x a }

/-- Both sets cleared and the output evaluated (R169 to R171). -/
def Attention.cleared (x : Session) : Attention :=
  Attention.evaluate { posted := 0, enabled := 0, asserted := false } x

/-- Causes posted at one host: recorded only while it is ATTACHED, the output evaluated within the
same event (R162, R163). Nothing is posted where the set is empty. -/
def Attention.post (a : Attention) (x : Session) (c : CauseSet) : Attention :=
  if c = 0#5 then a
  else if x.state = .attached then Attention.evaluate { a with posted := a.posted ||| c } x
  else a

/-! ### Status bytes -/

/-- The flags byte of LINE_STATUS (R75): settled level, qualification in progress, last rise present,
last fall present. -/
def Line.flags (l : Line) : Byte :=
  setOf fun i : Fin 8 =>
    match i.val with
    | 0 => l.settled.bit
    | 1 => l.qualification.isSome
    | 2 => l.lastRise.isSome
    | 3 => l.lastFall.isSome
    | _ => false

/-- The flags byte of one output in OUT_STATUS (R133). -/
def Output.flags (o : Output) : Byte :=
  setOf fun i : Fin 8 =>
    match i.val with
    | 0 => o.drive.bit
    | 1 => o.safe.bit
    | 2 => o.pulse.isSome
    | 3 => o.pulse.any fun p => p.level.bit
    | 4 => o.binding.isSome
    | 5 => o.binding.any fun b => b.kind == .fall
    | 6 => o.binding.any fun b => b.level.bit
    | _ => false

/-! ### What is due -/

/-- The raw level of line `l` in the latest sample (R60). -/
def State.rawLevel (s : State) (l : LineId) : Level := Level.ofBit (holds s.sample l)

/-- A qualification is to start: none is in progress and the sample shows a level other than the
settled one (R60). -/
def State.startDue (s : State) (l : LineId) : Bool :=
  s.lines[l].qualification.isNone && s.rawLevel l != s.lines[l].settled

/-- The qualification in progress is to end as a glitch: a tick after its start shows the settled
level again (R61). -/
def State.glitchDue (s : State) (l : LineId) : Bool :=
  match s.lines[l].qualification with
  | none => false
  | some q => decide (1 ≤ q.elapsed) && s.rawLevel l == s.lines[l].settled

/-- The qualification in progress is to end with an edge: F ticks have passed since its start and the
sample shows the changed level (R62). -/
def State.edgeDue (s : State) (l : LineId) : Bool :=
  match s.lines[l].qualification with
  | none => false
  | some q => decide (q.filter.toNat ≤ q.elapsed) && s.rawLevel l != s.lines[l].settled

/-- The check of an entry in use is due: its ticks to next check have reached 0 (R99). -/
def Watch.checkDue (w : Watch) : Bool := w.state != .free && w.ticks == 0

/-- The pulse of an output is due to expire (R122). -/
def Output.expiryDue (o : Output) : Bool := o.pulse.any fun p => p.count.due

/-- The supervision timer of an attached host has reached 0 (R145). -/
def Session.expiryDue (x : Session) : Bool :=
  x.state == .attached && x.timer.any fun c => c.due

/-- Some event of the latest tick is still to be taken (log 4). -/
def State.eventsDue (s : State) : Bool :=
  (List.finRange 16).any (fun l => s.startDue l || s.glitchDue l || s.edgeDue l)
    || (List.finRange 16).any (fun w : WatchId => s.watches[w].checkDue)
    || (List.finRange 8).any (fun o : OutputId => s.outputs[o].expiryDue)
    || (List.finRange 4).any (fun h : HostId => s.sessions[h].expiryDue)

end Sys2Proof.Machine
end

