-- ==== Sys2Proof/WellFormed.lean ====
section
/-!
DEFINITION. Which commands can come to the block at all, whatever its state: a request carries at
most 200 payload bytes (R175, R176), UNKNOWN_COMMAND carries a code that is not in the command code
table (R183, R188), and a length refusal carries a length byte above 200 (R176).
-/

namespace Sys2Proof

/-- The largest length byte a frame may carry (R176, R188). -/
abbrev maxPayload : Nat := 200

/-- The codes of the command code table (R188). -/
abbrev tableCodes : List Byte :=
  [0x01#8, 0x02#8, 0x03#8, 0x04#8, 0x05#8, 0x06#8, 0x07#8, 0x10#8, 0x11#8,
   0x20#8, 0x21#8, 0x22#8, 0x23#8, 0x24#8, 0x25#8, 0x30#8, 0x31#8, 0x32#8, 0x33#8, 0x34#8,
   0x40#8, 0x41#8, 0x42#8, 0x50#8, 0x51#8, 0x52#8, 0x53#8, 0x54#8, 0x55#8, 0x56#8, 0x57#8, 0x58#8,
   0x60#8, 0x61#8]

/-- The payload fits a request frame (R175, R176). -/
abbrev payloadFits (payload : List Byte) : Bool := payload.length ≤ maxPayload

/-- The static check of a command. -/
def Instr.wellFormed : Instr → Bool
  | .attach _ _ p => payloadFits p
  | .detach _ _ p => payloadFits p
  | .evict _ _ p => payloadFits p
  | .restartHub _ _ p => payloadFits p
  | .hubStatus _ _ p => payloadFits p
  | .repeatResponse _ _ p => payloadFits p
  | .sendNote _ _ p => payloadFits p
  | .readTime _ _ p => payloadFits p
  | .adjustTime _ _ p => payloadFits p
  | .subscribeLines _ _ p => payloadFits p
  | .subscribeHub _ _ p => payloadFits p
  | .readSubscriptions _ _ p => payloadFits p
  | .readEvents _ _ p => payloadFits p
  | .ackEvents _ _ p => payloadFits p
  | .queueStatus _ _ p => payloadFits p
  | .lineConfigure _ _ p => payloadFits p
  | .lineArm _ _ p => payloadFits p
  | .lineDisarm _ _ p => payloadFits p
  | .lineRelease _ _ p => payloadFits p
  | .lineStatus _ _ p => payloadFits p
  | .watchInstall _ _ p => payloadFits p
  | .watchCancel _ _ p => payloadFits p
  | .watchRead _ _ p => payloadFits p
  | .outClaim _ _ p => payloadFits p
  | .outRelease _ _ p => payloadFits p
  | .outDrive _ _ p => payloadFits p
  | .outPulse _ _ p => payloadFits p
  | .outBind _ _ p => payloadFits p
  | .outUnbind _ _ p => payloadFits p
  | .outSeize _ _ p => payloadFits p
  | .outSafe _ _ p => payloadFits p
  | .outStatus _ _ p => payloadFits p
  | .setAttention _ _ p => payloadFits p
  | .clearAttention _ _ p => payloadFits p
  | .unknownCommand _ code _ p => payloadFits p && !tableCodes.contains code
  | .frameError _ _ => true
  | .frameRefusedForLength _ length => maxPayload < length.toNat
  | .frameDiscarded _ => true
  | .responseSent _ => true
  | .powerOnReset _ _ _ => true
  | .externalReset _ _ _ => true
  | .tick _ => true
  | .timeWrap _ => true
  | .qualificationStart _ => true
  | .glitch _ => true
  | .qualifiedEdge _ => true
  | .checkExpiry _ => true
  | .pulseExpiry _ => true
  | .supervisionExpiry _ => true
  | .selectFalls _ => true
  | .selectRises _ => true
  | .byteCompletes _ _ => true

end Sys2Proof
end

