-- ==== Sys2Proof/Machine/Ops.lean ====
section
/-!
DEFINITION. The named operations that the commands share: updates of one register, the record pool's
requests (offer, fold, showing, holder removal, release of a fold target), the host queues' handling
of an offer, the session end, and the taking and answering of a request at a port.
-/

namespace Sys2Proof.Machine

/-! ### Updates of one element -/

def State.setSlot (s : State) (i : SlotId) (r : Option Record) : State :=
  { s with slots := s.slots.set i.val r }

def State.setSubscription (s : State) (h : HostId) (x : Subscription) : State :=
  { s with subscriptions := s.subscriptions.set h.val x }

def State.setQueue (s : State) (h : HostId) (q : Queue) : State :=
  { s with queues := s.queues.set h.val q }

def State.setLine (s : State) (l : LineId) (x : Line) : State :=
  { s with lines := s.lines.set l.val x }

def State.setWatch (s : State) (w : WatchId) (x : Watch) : State :=
  { s with watches := s.watches.set w.val x }

def State.setOutput (s : State) (o : OutputId) (x : Output) : State :=
  { s with outputs := s.outputs.set o.val x }

def State.setSession (s : State) (h : HostId) (x : Session) : State :=
  { s with sessions := s.sessions.set h.val x }

def State.setAttention (s : State) (h : HostId) (x : Attention) : State :=
  { s with attention := s.attention.set h.val x }

def State.setPort (s : State) (h : HostId) (x : Port) : State :=
  { s with ports := s.ports.set h.val x }

/-! ### Readings -/

/-- The host is ATTACHED (R138). -/
def State.isAttached (s : State) (h : HostId) : Bool := s.sessions[h].state == .attached

/-- The host's port is a SUPERVISOR (R139). -/
def State.isSupervisor (s : State) (h : HostId) : Bool := s.sessions[h].privilege == .supervisor

/-- The ATTACHED hosts, as a host set. -/
def State.attachedSet (s : State) : HostSet := setOf s.isAttached

/-- The settled level of all sixteen lines, one bit per line (R80). -/
def State.settledLevels (s : State) : LineSet := setOf fun l => s.lines[l].settled.bit

/-- The FREE slot with the lowest number (R1). -/
def State.freeSlot? (s : State) : Option SlotId := (List.finRange 64).find? fun i => s.slots[i].isNone

/-- The free record count (R27). -/
def State.freeCount (s : State) : Nat := s.slots.toList.countP Option.isNone

/-- The queue is full (R36). -/
def Queue.isFull (q : Queue) : Bool := decide (32 ≤ q.entries.length)

/-- The FREE watch entry with the lowest number (R97). -/
def State.freeWatch? (s : State) : Option WatchId :=
  (List.finRange 16).find? fun w => s.watches[w].state == .free

/-- The owner of an output or an entry as a host set. -/
def ownerSet : Option HostId → HostSet
  | none => 0#4
  | some h => single h

/-! ### Attention postings (R162) -/

/-- One cause posted at one host. -/
def State.post (s : State) (h : HostId) (c : Cause) : State :=
  s.setAttention h (s.attention[h].post s.sessions[h] c.set)

/-! ### Fold references (R59, R71, R72) -/

/-- The line's fold reference for an edge kind. -/
def Line.foldRef (x : Line) : EdgeKind → Option SlotId
  | .rise => x.foldRise
  | .fall => x.foldFall

def Line.setFoldRef (x : Line) (k : EdgeKind) (r : Option SlotId) : Line :=
  match k with
  | .rise => { x with foldRise := r }
  | .fall => { x with foldFall := r }

/-- The Line Monitor clears the fold reference that a record's fold target names, when the pool tells
it that the record has been shown or freed (R19, R24, R72). -/
def State.clearFoldRef (s : State) : Option (LineId × EdgeKind) → State
  | none => s
  | some (l, k) => s.setLine l (s.lines[l].setFoldRef k none)

/-- The Line Monitor drops a fold reference for a cause of its own, and the pool clears the record's
fold target within the same event (R23, R72). -/
def State.dropFoldRef (s : State) (l : LineId) (k : EdgeKind) : State :=
  match s.lines[l].foldRef k with
  | none => s
  | some i =>
    let s' := s.setLine l (s.lines[l].setFoldRef k none)
    match s'.slots[i] with
    | none => s'
    | some r => s'.setSlot i (some { r with foldTarget := none })

/-- Both fold references of a line dropped (R65, R68). -/
def State.dropFoldRefs (s : State) (l : LineId) : State :=
  (s.dropFoldRef l .rise).dropFoldRef l .fall

/-- A line after a soft restart or a release: UNSET, no owner, the default configuration, no fold
reference; settled level, qualification and statistics kept (R68, R79). -/
def Line.unconfigured (x : Line) : Line :=
  { x with
    state := .unset, owner := none, sense := .both, filter := 0, policy := .each
    foldRise := none, foldFall := none }

/-! ### Record Pool: creation (section 1.3) -/

/-- An offer of a new record (R12). `named` is the candidate set of the kinds that do not route
through the Subscription Table. -/
structure Offer where
  kind : Kind
  source : Source
  timestamp : HubTime
  detail : Detail
  named : HostSet
  deriving DecidableEq, Repr

/-- The candidate set of an offer, read from the Subscription Table for the kinds that route through
it, less the subject of a session record (R13, R31). -/
def State.candidates (s : State) (o : Offer) : HostSet :=
  match o.kind, o.source with
  | .lineRise, .line l => setOf fun h => holds s.subscriptions[h].rise l
  | .lineFall, .line l => setOf fun h => holds s.subscriptions[h].fall l
  | .hostAttached, .host subject => setOf fun h => s.subscriptions[h].session && h != subject
  | .hostDetached, .host subject => setOf fun h => s.subscriptions[h].session && h != subject
  | .hostLost, .host subject => setOf fun h => s.subscriptions[h].session && h != subject
  | .hostEvicted, .host subject => setOf fun h => s.subscriptions[h].session && h != subject
  | .timeWrap, _ => setOf fun h => s.subscriptions[h].time
  | .timeAdjusted, _ => setOf fun h => s.subscriptions[h].time
  | _, _ => o.named

/-- The routing set: the candidates that are ATTACHED when the offer is taken (R13). -/
def State.routing (s : State) (o : Offer) : HostSet := s.candidates o &&& s.attachedSet

/-- An entry joins the queue's tail, carrying the pending miss count (R38). -/
def Queue.join (q : Queue) (i : SlotId) : Queue :=
  { q with
    entries := q.entries ++ [{ slot := i, missedBefore := q.pendingMisses }]
    pendingMisses := 0 }

/-- The causes a join posts: ENTRY, and THRESHOLD if the new length equals the threshold (R38). -/
def Queue.joinCauses (q : Queue) : CauseSet :=
  if q.entries.length + 1 = q.threshold.toNat then Cause.entry.set ||| Cause.threshold.set
  else Cause.entry.set

/-- A miss charged to a queue (R39). -/
def Queue.miss (q : Queue) : Queue :=
  { q with pendingMisses := saturate q.pendingMisses, missedTotal := saturate q.missedTotal }

/-- One miss charged to each host of a set, with its MISSED cause (R15, R39). -/
def State.chargeMisses (s : State) (hosts : HostSet) : State :=
  { s with
    queues := Vector.ofFn fun h : HostId => if holds hosts h then s.queues[h].miss else s.queues[h]
    attention := Vector.ofFn fun h : HostId =>
      if holds hosts h then s.attention[h].post s.sessions[h] Cause.missed.set else s.attention[h] }

/-- One entry for the record in slot `i` joins the queue of each host of a set, with the causes a join
posts (R16, R38). -/
def State.joinQueues (s : State) (hosts : HostSet) (i : SlotId) : State :=
  { s with
    queues := Vector.ofFn fun h : HostId => if holds hosts h then s.queues[h].join i else s.queues[h]
    attention := Vector.ofFn fun h : HostId =>
      if holds hosts h then s.attention[h].post s.sessions[h] s.queues[h].joinCauses
      else s.attention[h] }

/-- The record an offer creates (R16): the next sequence, OPEN, no fold target. -/
def Offer.record (o : Offer) (seq : Half) (holders : HostSet) : Record where
  seq := seq
  kind := o.kind
  source := o.source
  timestamp := o.timestamp
  detail := o.detail
  holders := holders
  shown := false
  foldTarget := none

/-- What becomes of an offer. -/
inductive OfferResult
  /-- The routing set was empty (R14). -/
  | unrouted
  /-- No slot was FREE: misses charged (R15), or a NOTE refused (R18). -/
  | noSlot
  /-- Every routed queue was full (R16). -/
  | allMissed (missed : HostSet)
  /-- A record was created in slot `slot` (R16). -/
  | created (slot : SlotId) (recipients missed : HostSet)
  deriving DecidableEq, Repr

/-- The hosts of a set whose queues hold 32 entries (R16). -/
def State.fullQueues (s : State) (hosts : HostSet) : HostSet :=
  setOf fun h => holds hosts h && s.queues[h].isFull

/-- The creation of an offer's record in slot `i` for a non-empty set of recipients (R16). -/
def State.create (s : State) (o : Offer) (i : SlotId) (recipients : HostSet) : State :=
  { (s.setSlot i (some (o.record s.nextSeq recipients))) with
    nextSeq := s.nextSeq + 1#16 }.joinQueues recipients i

/-- The pool takes an offer: routing, exhaustion, misses, creation (R13 to R16, R18). -/
def State.offer (s : State) (o : Offer) : State × OfferResult :=
  let routed := s.routing o
  if routed = 0#4 then (s, .unrouted)
  else
    match s.freeSlot? with
    | none =>
      if o.kind = .note then (s, .noSlot)
      else ({ s.chargeMisses routed with exhaustion := saturate s.exhaustion }, .noSlot)
    | some i =>
      let missed := s.fullQueues routed
      let recipients := routed &&& ~~~missed
      let charged := s.chargeMisses missed
      if recipients = 0#4 then (charged, .allMissed missed)
      else (charged.create o i recipients, .created i recipients missed)

/-- Offers taken one after another (R12), with nothing in between: the model's choice (log 23). -/
def State.takeOffers (s : State) (offers : List Offer) : State :=
  offers.foldl (fun s o => (s.offer o).1) s

/-! ### Record Pool: showing, folding, removal (sections 1.4 to 1.6) -/

/-- A showing of the record in slot `i` (R19): it becomes SHOWN, and its fold target and the line's
fold reference are cleared. -/
def State.showRecord (s : State) (i : SlotId) : State :=
  match s.slots[i] with
  | none => s
  | some r =>
    (s.setSlot i (some { r with shown := true, foldTarget := none })).clearFoldRef r.foldTarget

/-- The fold count after one more folded edge (R20). -/
def nextFoldCount : Option Half → Half
  | none => 1#16
  | some n => saturate n

/-- A record with an edge folded into it (R20). -/
def Record.fold (r : Record) (policy : Policy) (t0 : HubTime) (snapshot : LineSet) : Record :=
  match r.detail with
  | .line kept count =>
    if policy = .latest then
      { r with timestamp := t0, detail := .line snapshot (some (nextFoldCount count)) }
    else { r with detail := .line kept (some (nextFoldCount count)) }
  | _ => r

/-- A fold into the record in slot `i` (R20). -/
def State.foldRecord (s : State) (i : SlotId) (policy : Policy) (t0 : HubTime)
    (snapshot : LineSet) : State :=
  match s.slots[i] with
  | none => s
  | some r => s.setSlot i (some (r.fold policy t0 snapshot))

/-- Host `h` leaves the holder set of the record in slot `i`; a record that loses its last holder is
freed, and its fold target and the line's fold reference are cleared (R24). -/
def State.removeHolder (s : State) (i : SlotId) (h : HostId) : State :=
  match s.slots[i] with
  | none => s
  | some r =>
    let left := without r.holders h
    if left = 0#4 then (s.setSlot i none).clearFoldRef r.foldTarget
    else s.setSlot i (some { r with holders := left })

/-- The head entry of a host's queue leaves the list, with one holder removal (R48). -/
def State.removeHead (s : State) (h : HostId) : State :=
  match s.queues[h].entries with
  | [] => s
  | e :: rest => (s.setQueue h { s.queues[h] with entries := rest }).removeHolder e.slot h

/-- The `n` oldest entries of a host's queue removed, oldest first (R24, R48). -/
def State.removeOldest (s : State) (h : HostId) : Nat → State
  | 0 => s
  | n + 1 => (s.removeHead h).removeOldest h n

/-! ### Session end (section 7.5) -/

/-- What ends a session. -/
inductive EndCause
  | detach | timeout
  | evict (evictor : HostId)
  deriving DecidableEq, Repr

/-- The session right after its end (R145, R147, R149, R151): the timer stops and the period is 0. -/
def Session.ended (x : Session) : EndCause → Session
  | .detach => { x with state := .detached, period := 0, timer := none }
  | .timeout => { x with state := .lost, period := 0, timer := none, notice := true, loss := .timeout }
  | .evict _ => { x with state := .lost, period := 0, timer := none, notice := true, loss := .evicted }

/-- An output given up: pulse cancelled, binding removed, no owner, safe level driven (R119, R134). -/
def Output.release (o : Output) : Output :=
  { o with owner := none, drive := o.safe, pulse := none, binding := none }

/-- What a departing host's session end makes of a watch entry (R111, R112). A FREE entry, with no
owner and no notify set, stays as it is. -/
def Watch.leave (w : Watch) (h : HostId) : Watch :=
  if w.owner = some h then Watch.blank
  else { w with notify := without w.notify h }

/-- What each block gives back at a session end of host `h` (R54, R55, R77, R111, R112, R134, R170).
The session itself has already ended. -/
def State.teardown (s : State) (h : HostId) : State :=
  let t := s.removeOldest h s.queues[h].entries.length
  { t with
    queues := t.queues.set h.val { entries := [], pendingMisses := 0, missedTotal := 0, threshold := 1 }
    subscriptions := t.subscriptions.set h.val { rise := 0, fall := 0, session := false, time := false }
    lines := t.lines.map fun l => if l.owner = some h then { l with owner := none } else l
    watches := t.watches.map fun w => w.leave h
    outputs := t.outputs.map fun o => if o.owner = some h then o.release else o
    attention := t.attention.set h.val (Attention.cleared t.sessions[h]) }

/-- The session record of a session end (R9, R145, R147, R149). -/
def EndCause.offer (c : EndCause) (h : HostId) (number : Byte) (timestamp : HubTime) : Offer :=
  match c with
  | .detach => ⟨.hostDetached, .host h, timestamp, .session number, 0⟩
  | .timeout => ⟨.hostLost, .host h, timestamp, .session number, 0⟩
  | .evict by_ => ⟨.hostEvicted, .host h, timestamp, .evicted number by_, 0⟩

/-- A session end, whole: the session, the teardown, then the session record (R151). -/
def State.endSession (s : State) (h : HostId) (c : EndCause) : State :=
  let ended := s.setSession h (s.sessions[h].ended c)
  ((ended.teardown h).offer (c.offer h s.sessions[h].number s.hubTime)).1

/-! ### Supervision timer (R144) -/

/-- A count of `n` ticks begun. -/
def Countdown.start (n : Nat) : Countdown := { remaining := n, due := false }

/-- One tick of a count: at the last one the expiry falls due (R122, R144). -/
def Countdown.tick (c : Countdown) : Countdown :=
  if c.remaining ≤ 1 then { c with due := true } else { c with remaining := c.remaining - 1 }

/-- The timer of a full supervision period: stopped for a period of 0 (R142, R144). -/
def fullTimer (period : Byte) : Option Countdown :=
  if period = 0#8 then none else some (Countdown.start (period.toNat * 10000))

/-- The taking of a request sets the timer of an ATTACHED host to its full period (R144, R180). -/
def State.restartTimer (s : State) (h : HostId) : State :=
  if s.isAttached h then s.setSession h { s.sessions[h] with timer := fullTimer s.sessions[h].period }
  else s

/-! ### Taking and answering a request (section 9.4) -/

/-- A request as its command sees it: caller, taken-at time and payload. -/
structure Request where
  host : HostId
  takenAt : HubTime
  payload : List Byte
  deriving DecidableEq, Repr

/-- What a command makes of a request: the state, the status and the response payload. -/
structure Reply where
  state : State
  status : Status
  payload : List Byte
  deriving DecidableEq, Repr

/-- A refusal: nothing changes and the payload is empty (R182). -/
def refuse (s : State) (status : Status) : Reply := { state := s, status := status, payload := [] }

/-- The session check of every command that needs an ATTACHED caller (R140). -/
def ifAttached (rq : Request) (s : State) (k : Reply) : Reply :=
  match s.sessions[rq.host].state with
  | .detached => refuse s .notAttached
  | .lost => refuse s .lost
  | .attached => k

/-- The port is RECEIVING and every byte of this frame but its CRC has arrived (R174, R175). -/
def Port.awaitsCrc (p : Port) (code tag : Byte) (payload : List Byte) : Bool :=
  match p.receiver with
  | .receiving bytes _ => decide (bytes = requestBytes code tag payload) && payloadFits payload
  | _ => false

/-- The response is stored at the port (R184). -/
def State.storeResponse (s : State) (h : HostId) (r : Response) : State :=
  s.setPort h { s.ports[h] with stored := some r }

/-- The CRC byte has arrived, SDO carrying IDLE, and the port begins to answer (R174, R180, R181). -/
def State.startAnswer (s : State) (h : HostId) (r : Response) : State :=
  s.setPort h
    { s.ports[h] with receiver := .answering false r.frame 0, sdo := some idleByte }

/-- A request taken at port `h` and answered (R180): the taken-at time is read, the supervision timer
restarts, the command acts, and its response is stored and begins to be sent. The taken-at time is hub
time as the tick's count has left it: two requests of one tick may straddle the count (log 21). -/
def State.take (s : State) (h : HostId) (tag : Byte) (payload : List Byte)
    (command : Request → State → Reply) : State :=
  let reply := command ⟨h, s.hubTime, payload⟩ (s.restartTimer h)
  let response : Response := ⟨reply.status, tag, s.hubTime, reply.payload⟩
  (reply.state.storeResponse h response).startAnswer h response

/-- A request row: the request with this code is taken if the port awaits the CRC byte of exactly
this frame, and cannot be otherwise (R174, R180). -/
def takeRow (code : Byte) (command : Request → State → Reply) (h : HostId) (tag : Byte)
    (payload : List Byte) (s : State) : Host.Outcome State Fault Refusal :=
  if s.ports[h].awaitsCrc code tag payload then .next (s.take h tag payload command)
  else .refused .frameNotReceived

end Sys2Proof.Machine
end

