-- ==== Sys2Proof/Machine/Resets.lean ====
section
/-!
DEFINITION. POWER_ON_RESET and EXTERNAL_RESET: every block's initial state, with the pins sampled at
the end of the reset (R28, R57, R78, R93, R113, R135, R160, R171, R187).
-/

namespace Sys2Proof.Machine

/-- A line after a reset: UNSET, no statistics, the settled level that of the pin, no edge (R78). -/
def Line.afterReset (level : Level) : Line where
  state := .unset
  owner := none
  sense := .both
  filter := 0
  policy := .each
  settled := level
  qualification := none
  lastRise := none
  lastFall := none
  edges := 0
  glitches := 0
  foldRise := none
  foldFall := none

/-- A session after a reset: the privilege is that of the strap (R139, R160). -/
def Session.afterReset (strapHigh : Bool) : Session where
  state := .detached
  privilege := if strapHigh then .supervisor else .ordinary
  period := 0
  timer := none
  number := 0
  notice := true
  loss := .noLoss

/-- A port after a reset: DESELECTED, even while its select is low (R187). -/
def Port.afterReset (selectLow : Bool) : Port where
  selectLow := selectLow
  receiver := .deselected
  sdo := none
  stored := none
  discarded := 0
  frameErrors := 0

/-- A power-on or external reset, whole. `straps`, `levels` and `selects` are the pins at its end: the
high straps, the raw line levels, and the ports whose select is low. The commands that wait, and the
count of free values read, are not the device's and stay. -/
def State.hardReset (s : State) (cause : ResetCause) (straps : HostSet) (levels : LineSet)
    (selects : HostSet) : State where
  slots := Vector.replicate 64 none
  nextSeq := 0
  exhaustion := 0
  subscriptions := Vector.replicate 4 { rise := 0, fall := 0, session := false, time := false }
  queues := Vector.replicate 4 { entries := [], pendingMisses := 0, missedTotal := 0, threshold := 1 }
  lines := Vector.ofFn fun l : LineId => Line.afterReset (Level.ofBit (holds levels l))
  sample := levels
  hubTime := 0
  epoch := 0
  countOwed := false
  watches := Vector.replicate 16 Watch.blank
  outputs := Vector.replicate 8
    { owner := none, drive := .low, safe := .low, pulse := none, binding := none }
  sessions := Vector.ofFn fun h : HostId => Session.afterReset (holds straps h)
  resetCause := cause
  attention := Vector.ofFn fun h : HostId =>
    Attention.cleared (Session.afterReset (holds straps h))
  ports := Vector.ofFn fun h : HostId => Port.afterReset (holds selects h)
  draws := s.draws
  pending := s.pending

def execPowerOnReset (straps : HostSet) (levels : LineSet) (selects : HostSet) (s : State) :
    Host.Outcome State Fault Refusal :=
  .next (s.hardReset .powerOn straps levels selects)

def execExternalReset (straps : HostSet) (levels : LineSet) (selects : HostSet) (s : State) :
    Host.Outcome State Fault Refusal :=
  .next (s.hardReset .external straps levels selects)

end Sys2Proof.Machine
end

