-- ==== Sys2Proof/Machine/AttentionUnit.lean ====
section
/-!
DEFINITION. The commands of the Attention Unit: SET_ATTENTION and CLEAR_ATTENTION (chapter 8).
-/

namespace Sys2Proof.Machine

/-! ### SET_ATTENTION (R165) -/

def setAttentionReply (rq : Request) (s : State) : Reply :=
  ifAttached rq s <|
    match rq.payload with
    | [enabled, threshold] =>
      match causeSet? enabled with
      | none => refuse s .badArg
      | some causes =>
        if threshold = 0#8 ∨ 32 < threshold.toNat then refuse s .badArg
        else
          let a := { s.attention[rq.host] with enabled := causes }.evaluate s.sessions[rq.host]
          { state := (s.setAttention rq.host a).setQueue rq.host
              { s.queues[rq.host] with threshold := threshold }
            status := .ok
            payload := [causeSetByte causes, threshold, causeSetByte a.posted] }
    | _ => refuse s .badArg

def execSetAttention (host : HostId) (tag : Byte) (payload : List Byte) (s : State) :
    Host.Outcome State Fault Refusal :=
  takeRow 0x60#8 setAttentionReply host tag payload s

/-! ### CLEAR_ATTENTION (R167) -/

def clearAttentionReply (rq : Request) (s : State) : Reply :=
  ifAttached rq s <|
    match rq.payload with
    | [clear] =>
      match causeSet? clear with
      | none => refuse s .badArg
      | some causes =>
        let a := s.attention[rq.host]
        { state := s.setAttention rq.host
            ({ a with posted := a.posted &&& ~~~causes }.evaluate s.sessions[rq.host])
          status := .ok
          payload := [causeSetByte a.posted, causeSetByte a.enabled] }
    | _ => refuse s .badArg

def execClearAttention (host : HostId) (tag : Byte) (payload : List Byte) (s : State) :
    Host.Outcome State Fault Refusal :=
  takeRow 0x61#8 clearAttentionReply host tag payload s

end Sys2Proof.Machine
end

