-- ==== Sys2Proof/Machine/HostQueues.lean ====
section
/-!
DEFINITION. The commands of the Subscription Table and the Host Queues: SUBSCRIBE_LINES,
SUBSCRIBE_HUB, READ_SUBSCRIPTIONS, READ_EVENTS, ACK_EVENTS and QUEUE_STATUS (chapter 2).
-/

namespace Sys2Proof.Machine

/-! ### Subscriptions (R32 to R34) -/

/-- The two line sets of a host, as the responses carry them (R32, R34). -/
def Subscription.lineBytes (x : Subscription) : List Byte := halfBytes x.rise ++ halfBytes x.fall

/-- The class set byte: SESSION in bit 0, TIME in bit 1 (R33). -/
def Subscription.classByte (x : Subscription) : Byte :=
  setOf fun i : Fin 8 => match i.val with
    | 0 => x.session
    | 1 => x.time
    | _ => false

/-- A line set with the members of `named` in or out. -/
def putLines (old named : LineSet) (inside : Bool) : LineSet :=
  if inside then old ||| named else old &&& ~~~named

/-- The kind set of every named line replaced (R32). -/
def Subscription.putKinds (x : Subscription) (named : LineSet) (rise fall : Bool) : Subscription :=
  { x with rise := putLines x.rise named rise, fall := putLines x.fall named fall }

def subscribeLinesReply (rq : Request) (s : State) : Reply :=
  ifAttached rq s <|
    match rq.payload with
    | [hi, lo, kinds] =>
      let named := half hi lo
      if named = 0#16 ∨ kinds &&& 0xFC#8 ≠ 0#8 then refuse s .badArg
      else
        let x := s.subscriptions[rq.host].putKinds named (kinds.getLsbD 0) (kinds.getLsbD 1)
        { state := s.setSubscription rq.host x, status := .ok, payload := x.lineBytes }
    | _ => refuse s .badArg

def execSubscribeLines (host : HostId) (tag : Byte) (payload : List Byte) (s : State) :
    Host.Outcome State Fault Refusal :=
  takeRow 0x20#8 subscribeLinesReply host tag payload s

def subscribeHubReply (rq : Request) (s : State) : Reply :=
  ifAttached rq s <|
    match rq.payload with
    | [classes] =>
      if classes &&& 0xFC#8 ≠ 0#8 then refuse s .badArg
      else
        let x := { s.subscriptions[rq.host] with
          session := classes.getLsbD 0, time := classes.getLsbD 1 }
        { state := s.setSubscription rq.host x, status := .ok, payload := [x.classByte] }
    | _ => refuse s .badArg

def execSubscribeHub (host : HostId) (tag : Byte) (payload : List Byte) (s : State) :
    Host.Outcome State Fault Refusal :=
  takeRow 0x21#8 subscribeHubReply host tag payload s

def readSubscriptionsReply (rq : Request) (s : State) : Reply :=
  ifAttached rq s <|
    if rq.payload ≠ [] then refuse s .badArg
    else
      let x := s.subscriptions[rq.host]
      { state := s, status := .ok, payload := x.lineBytes ++ [x.classByte] }

def execReadSubscriptions (host : HostId) (tag : Byte) (payload : List Byte) (s : State) :
    Host.Outcome State Fault Refusal :=
  takeRow 0x22#8 readSubscriptionsReply host tag payload s

/-! ### READ_EVENTS (R43 to R45, R189) -/

/-- The encoding of one entry: its record as it stands, and its own missed-before count. The record is
in use, by R2 (log 15). -/
def State.encodeEntry (s : State) (e : Entry) : List Byte :=
  match s.slots[e.slot] with
  | none => []
  | some r => entryBytes r e.missedBefore

/-- The showings of the records of a list of entries (R45). -/
def State.showEntries (s : State) (entries : List Entry) : State :=
  entries.foldl (fun s e => s.showRecord e.slot) s

/-- The entries at positions offset to offset + count − 1 that exist (R44). -/
def Queue.window (q : Queue) (offset count : Byte) : List Entry :=
  (q.entries.drop offset.toNat).take count.toNat

def readEventsReply (rq : Request) (s : State) : Reply :=
  ifAttached rq s <|
    match rq.payload with
    | [offset, count] =>
      if 31 < offset.toNat ∨ count = 0#8 ∨ 8 < count.toNat then refuse s .badArg
      else
        let q := s.queues[rq.host]
        let returned := q.window offset count
        { state := s.showEntries returned
          status := .ok
          payload := numberByte q.entries.length :: returned.flatMap s.encodeEntry }
    | _ => refuse s .badArg

def execReadEvents (host : HostId) (tag : Byte) (payload : List Byte) (s : State) :
    Host.Outcome State Fault Refusal :=
  takeRow 0x23#8 readEventsReply host tag payload s

/-! ### ACK_EVENTS (R47, R48) -/

/-- The sequence of the record an entry refers to. The record is in use, by R2 (log 15). -/
def State.entrySeq (s : State) (e : Entry) : Half :=
  match s.slots[e.slot] with
  | none => 0#16
  | some r => r.seq

def ackEventsReply (rq : Request) (s : State) : Reply :=
  ifAttached rq s <|
    match rq.payload with
    | [count, hi, lo] =>
      if count = 0#8 ∨ 32 < count.toNat then refuse s .badArg
      else
        let q := s.queues[rq.host]
        match q.entries[count.toNat - 1]? with
        | none => { refuse s .noEntry with payload := [numberByte q.entries.length] }
        | some e =>
          if s.entrySeq e ≠ half hi lo then
            { refuse s .mismatch with
              payload := numberByte q.entries.length :: halfBytes (s.entrySeq e) }
          else
            { state := s.removeOldest rq.host count.toNat
              status := .ok
              payload := [numberByte (q.entries.length - count.toNat)] }
    | _ => refuse s .badArg

def execAckEvents (host : HostId) (tag : Byte) (payload : List Byte) (s : State) :
    Host.Outcome State Fault Refusal :=
  takeRow 0x24#8 ackEventsReply host tag payload s

/-! ### QUEUE_STATUS (R52) -/

def queueStatusReply (rq : Request) (s : State) : Reply :=
  ifAttached rq s <|
    match rq.payload with
    | [clear] =>
      if clear ≠ 0#8 ∧ clear ≠ 1#8 then refuse s .badArg
      else
        let q := s.queues[rq.host]
        { state := if clear = 1#8 then s.setQueue rq.host { q with missedTotal := 0 } else s
          status := .ok
          payload := [numberByte q.entries.length] ++ halfBytes q.pendingMisses
            ++ halfBytes q.missedTotal ++ [q.threshold] }
    | _ => refuse s .badArg

def execQueueStatus (host : HostId) (tag : Byte) (payload : List Byte) (s : State) :
    Host.Outcome State Fault Refusal :=
  takeRow 0x25#8 queueStatusReply host tag payload s

end Sys2Proof.Machine
end

