-- ==== Sys2Proof/Machine/Outputs.lean ====
section
/-!
DEFINITION. The commands of the Output Block, the pulse expiry and the firing of reflexes
(chapter 6).
-/

namespace Sys2Proof.Machine

/-! ### Readings over output sets -/

/-- Some output of the set satisfies `p`. -/
def State.anyOutput (s : State) (outs : OutputSet) (p : Output → Bool) : Bool :=
  (List.finRange 8).any fun o => holds outs o && p s.outputs[o]

/-- The outputs of a set that satisfy `p`. -/
def State.outputsWhere (s : State) (outs : OutputSet) (p : Output → Bool) : OutputSet :=
  setOf fun o => holds outs o && p s.outputs[o]

/-- Every output of a set changed by `f`, the others kept. -/
def State.mapOutputs (s : State) (outs : OutputSet) (f : OutputId → Output → Output) : State :=
  { s with
    outputs := Vector.ofFn fun o : OutputId => if holds outs o then f o s.outputs[o] else s.outputs[o] }

/-- The outputs a host owns. -/
def State.ownedOutputs (s : State) (h : HostId) : OutputSet :=
  setOf fun o => s.outputs[o].owner == some h

/-! ### OUT_CLAIM (R117) -/

def Output.claim (o : Output) (h : HostId) : Output :=
  match o.owner with
  | some _ => o
  | none => { o with owner := some h }

def outClaimReply (rq : Request) (s : State) : Reply :=
  ifAttached rq s <|
    match rq.payload with
    | [outs] =>
      if outs = 0#8 then refuse s .badArg
      else if s.anyOutput outs fun o => o.owner.isSome && o.owner != some rq.host then refuse s .held
      else
        let t := s.mapOutputs outs fun _ o => o.claim rq.host
        { state := t, status := .ok, payload := [t.ownedOutputs rq.host] }
    | _ => refuse s .badArg

def execOutClaim (host : HostId) (tag : Byte) (payload : List Byte) (s : State) :
    Host.Outcome State Fault Refusal :=
  takeRow 0x50#8 outClaimReply host tag payload s

/-! ### OUT_RELEASE (R119) -/

def outReleaseReply (rq : Request) (s : State) : Reply :=
  ifAttached rq s <|
    match rq.payload with
    | [outs] =>
      if outs = 0#8 then refuse s .badArg
      else if s.anyOutput outs fun o => o.owner != some rq.host then refuse s .notOwner
      else
        { state := s.mapOutputs outs fun _ o => o.release
          status := .ok
          payload := [s.outputsWhere outs fun o => o.pulse.isSome] }
    | _ => refuse s .badArg

def execOutRelease (host : HostId) (tag : Byte) (payload : List Byte) (s : State) :
    Host.Outcome State Fault Refusal :=
  takeRow 0x51#8 outReleaseReply host tag payload s

/-! ### OUT_DRIVE (R120) -/

/-- The drive levels of all eight outputs (R120). -/
def State.driveLevels (s : State) : OutputSet := setOf fun o => s.outputs[o].drive.bit

def outDriveReply (rq : Request) (s : State) : Reply :=
  ifAttached rq s <|
    match rq.payload with
    | [outs, levels] =>
      if outs = 0#8 then refuse s .badArg
      else if s.anyOutput outs fun o => o.owner != some rq.host then refuse s .notOwner
      else if s.anyOutput outs fun o => o.pulse.isSome then refuse s .busy
      else
        let t := s.mapOutputs outs fun i o => { o with drive := Level.ofBit (holds levels i) }
        { state := t, status := .ok, payload := [t.driveLevels] }
    | _ => refuse s .badArg

def execOutDrive (host : HostId) (tag : Byte) (payload : List Byte) (s : State) :
    Host.Outcome State Fault Refusal :=
  takeRow 0x52#8 outDriveReply host tag payload s

/-! ### OUT_PULSE (R121) -/

/-- A pulse begun: the output drives `level` and will return to the level it drove (R121). -/
def Output.startPulse (o : Output) (level : Level) (duration : Half) : Output :=
  { o with
    drive := level
    pulse := some
      { level := level, returnLevel := o.drive, count := Countdown.start (duration.toNat * 10) } }

def outPulseReply (rq : Request) (s : State) : Reply :=
  ifAttached rq s <|
    match rq.payload with
    | [out, lev, hi, lo] =>
      match numbered 8 out, level? lev with
      | some o, some level =>
        let duration := half hi lo
        if duration = 0#16 then refuse s .badArg
        else if level = s.outputs[o].drive then refuse s .badArg
        else if s.outputs[o].owner ≠ some rq.host then refuse s .notOwner
        else if s.outputs[o].pulse.isSome then refuse s .busy
        else
          { state := s.setOutput o (s.outputs[o].startPulse level duration)
            status := .ok
            payload := [] }
      | _, _ => refuse s .badArg
    | _ => refuse s .badArg

def execOutPulse (host : HostId) (tag : Byte) (payload : List Byte) (s : State) :
    Host.Outcome State Fault Refusal :=
  takeRow 0x53#8 outPulseReply host tag payload s

/-! ### OUT_BIND and OUT_UNBIND (R124, R125) -/

def outBindReply (rq : Request) (s : State) : Reply :=
  ifAttached rq s <|
    match rq.payload with
    | [out, line, kind, lev] =>
      match numbered 8 out, numbered 16 line, edgeKind? kind, level? lev with
      | some o, some l, some k, some level =>
        if s.outputs[o].owner ≠ some rq.host then refuse s .notOwner
        else
          { state := s.setOutput o { s.outputs[o] with binding := some ⟨l, k, level⟩ }
            status := .ok
            payload := [flagByte s.outputs[o].binding.isSome] }
      | _, _, _, _ => refuse s .badArg
    | _ => refuse s .badArg

def execOutBind (host : HostId) (tag : Byte) (payload : List Byte) (s : State) :
    Host.Outcome State Fault Refusal :=
  takeRow 0x54#8 outBindReply host tag payload s

def outUnbindReply (rq : Request) (s : State) : Reply :=
  ifAttached rq s <|
    match rq.payload with
    | [out] =>
      match numbered 8 out with
      | none => refuse s .badArg
      | some o =>
        if s.outputs[o].owner ≠ some rq.host then refuse s .notOwner
        else
          { state := s.setOutput o { s.outputs[o] with binding := none }
            status := .ok
            payload := [flagByte s.outputs[o].binding.isSome] }
    | _ => refuse s .badArg

def execOutUnbind (host : HostId) (tag : Byte) (payload : List Byte) (s : State) :
    Host.Outcome State Fault Refusal :=
  takeRow 0x55#8 outUnbindReply host tag payload s

/-! ### OUT_SEIZE (R129, R130) -/

/-- The level an output drives once its pulse, if any, has been cancelled by a seizure (R130). -/
def Output.settledDrive (o : Output) : Level :=
  match o.pulse with
  | none => o.drive
  | some p => p.returnLevel

/-- An output after a seizure by host `h` (R130). -/
def Output.seize (o : Output) (h : HostId) : Output :=
  match o.owner with
  | none => { o with owner := some h }
  | some owner =>
    if owner = h then o
    else { o with owner := some h, drive := o.settledDrive, pulse := none, binding := none }

/-- An output that a seizure by host `h` takes from another host (R130). -/
def Output.takenBy (h : HostId) (o : Output) : Bool := o.owner.isSome && o.owner != some h

/-- The OUTPUT_SEIZED offer for an output and its previous owner (R11, R130). -/
def seizedOffer (seizer : HostId) (o : OutputId) (takenAt : HubTime) (previous : Option HostId) :
    Offer :=
  ⟨.outputSeized, .output o, takenAt, .seized seizer, ownerSet previous⟩

/-- The offers of a seizure, in ascending order of output number (R11, R130). -/
def State.seizedOffers (s : State) (h : HostId) (outs : OutputSet) (takenAt : HubTime) : List Offer :=
  (members (s.outputsWhere outs (Output.takenBy h))).map fun o =>
    seizedOffer h o takenAt s.outputs[o].owner

/-- SEIZED posted at every host that a seizure takes an output from (R130, R163). -/
def State.postSeized (s : State) (h : HostId) (outs : OutputSet) : State :=
  { s with
    attention := Vector.ofFn fun g : HostId =>
      if s.anyOutput outs fun o => o.takenBy h && o.owner == some g then
        s.attention[g].post s.sessions[g] Cause.seized.set
      else s.attention[g] }

def outSeizeReply (rq : Request) (s : State) : Reply :=
  ifAttached rq s <|
    match rq.payload with
    | [outs] =>
      if outs = 0#8 then refuse s .badArg
      else if s.isSupervisor rq.host = false then refuse s .privilege
      else if s.anyOutput outs fun o => o.takenBy rq.host && o.owner.any s.isSupervisor then
        refuse s .privilege
      else
        { state := ((s.postSeized rq.host outs).mapOutputs outs fun _ o => o.seize rq.host).takeOffers
            (s.seizedOffers rq.host outs rq.takenAt)
          status := .ok
          payload := [s.outputsWhere outs (Output.takenBy rq.host),
            s.outputsWhere outs fun o => o.takenBy rq.host && o.pulse.isSome] }
    | _ => refuse s .badArg

def execOutSeize (host : HostId) (tag : Byte) (payload : List Byte) (s : State) :
    Host.Outcome State Fault Refusal :=
  takeRow 0x56#8 outSeizeReply host tag payload s

/-! ### OUT_SAFE (R132) -/

/-- A new safe level: an output with no owner drives it at once (R132). -/
def Output.putSafe (o : Output) (level : Level) : Output :=
  match o.owner with
  | none => { o with safe := level, drive := level }
  | some _ => { o with safe := level }

/-- The safe levels of all eight outputs (R132). -/
def State.safeLevels (s : State) : OutputSet := setOf fun o => s.outputs[o].safe.bit

def outSafeReply (rq : Request) (s : State) : Reply :=
  ifAttached rq s <|
    match rq.payload with
    | [outs, levels] =>
      if outs = 0#8 then refuse s .badArg
      else if s.isSupervisor rq.host = false then refuse s .privilege
      else
        let t := s.mapOutputs outs fun i o => o.putSafe (Level.ofBit (holds levels i))
        { state := t, status := .ok, payload := [t.safeLevels] }
    | _ => refuse s .badArg

def execOutSafe (host : HostId) (tag : Byte) (payload : List Byte) (s : State) :
    Host.Outcome State Fault Refusal :=
  takeRow 0x57#8 outSafeReply host tag payload s

/-! ### OUT_STATUS (R133) -/

/-- The 7 bytes of one output (R133). -/
def Output.statusBytes (o : Output) : List Byte :=
  [ownerByte o.owner, o.flags]
    ++ ticksBytes (match o.pulse with | none => 0 | some p => p.count.remaining)
    ++ [match o.binding with | none => 0xFF#8 | some b => numberByte b.line.val]

def outStatusReply (rq : Request) (s : State) : Reply :=
  ifAttached rq s <|
    if rq.payload ≠ [] then refuse s .badArg
    else { state := s, status := .ok, payload := s.outputs.toList.flatMap Output.statusBytes }

def execOutStatus (host : HostId) (tag : Byte) (payload : List Byte) (s : State) :
    Host.Outcome State Fault Refusal :=
  takeRow 0x58#8 outStatusReply host tag payload s

/-! ### PULSE_EXPIRY (R122) -/

/-- The pulse of an output has come to its end: the output drives the return level (R122). It cannot
come before (log 3). -/
def execPulseExpiry (output : OutputId) (s : State) : Host.Outcome State Fault Refusal :=
  match s.outputs[output].pulse with
  | none => .refused .notDue
  | some p =>
    if p.count.due then
      .next (s.setOutput output { s.outputs[output] with drive := p.returnLevel, pulse := none })
    else .refused .notDue

/-! ### Reflexes (R126, R127) -/

/-- The binding names this line and edge kind. -/
def Output.boundTo (o : Output) (l : LineId) (k : EdgeKind) : Bool :=
  o.binding.any fun b => b.line == l && b.kind == k

/-- An output fired by a reflex: the pulse is cancelled, the binding's level driven (R126). -/
def Output.fire (o : Output) : Output :=
  match o.binding with
  | none => o
  | some b => { o with pulse := none, drive := b.level }

/-- Every output bound to this line and edge kind fires (R126). -/
def State.fireReflexes (s : State) (l : LineId) (k : EdgeKind) : State :=
  { s with outputs := s.outputs.map fun o => if o.boundTo l k then o.fire else o }

/-- The REFLEX_FIRED offer of one output, once it has fired: its drive level is the level driven, its
owner the candidate (R11, R127). -/
def reflexOffer (o : OutputId) (x : Output) (l : LineId) (t0 : HubTime) : Offer :=
  ⟨.reflexFired, .output o, t0, .reflex l x.drive, ownerSet x.owner⟩

/-- The REFLEX_FIRED offers of a reflex request, in ascending order of output number (R127), read
after the outputs have fired. -/
def State.reflexOffers (s : State) (l : LineId) (k : EdgeKind) (t0 : HubTime) : List Offer :=
  ((List.finRange 8).filter fun o => s.outputs[o].boundTo l k).map fun o =>
    reflexOffer o s.outputs[o] l t0

end Sys2Proof.Machine
end

