-- ==== Sys2Proof/Machine/Lines.lean ====
section
/-!
DEFINITION. The commands and events of the Line Monitor: LINE_CONFIGURE, LINE_ARM, LINE_DISARM,
LINE_RELEASE, LINE_STATUS, QUALIFICATION_START, GLITCH and QUALIFIED_EDGE (chapter 3).
-/

namespace Sys2Proof.Machine

/-! ### Readings over line sets -/

/-- Some line of the set satisfies `p`. -/
def State.anyLine (s : State) (named : LineSet) (p : Line → Bool) : Bool :=
  (List.finRange 16).any fun l => holds named l && p s.lines[l]

/-- Every line of a set changed by `f`, the others kept. -/
def State.mapLines (s : State) (named : LineSet) (f : Line → Line) : State :=
  { s with
    lines := Vector.ofFn fun l : LineId => if holds named l then f s.lines[l] else s.lines[l] }

/-- The line has an owner other than this host (R65, R66). -/
def Line.ownedByOther (l : Line) (h : HostId) : Bool := l.owner.isSome && l.owner != some h

/-! ### LINE_CONFIGURE (R65) -/

/-- The line configured by its new owner (R65). -/
def Line.configure (l : Line) (h : HostId) (sense : Sense) (filter : BitVec 12) (policy : Policy) :
    Line :=
  { l with state := .disarmed, owner := some h, sense := sense, filter := filter, policy := policy }

/-- LINE_CONFIGURE (R65). It drops both fold references whoever the caller is (R65, R72), a SUPERVISOR that
takes the line over included: R76 says that such a change of owner leaves them, and the model follows R65
and R72 (log 20). -/
def lineConfigureReply (rq : Request) (s : State) : Reply :=
  ifAttached rq s <|
    match rq.payload with
    | [line, sense, hi, lo, policy] =>
      match numbered 16 line, sense? sense, filterTime? (half hi lo), policy? policy with
      | some l, some sense, some filter, some policy =>
        if s.lines[l].ownedByOther rq.host && !s.isSupervisor rq.host then refuse s .notOwner
        else if s.lines[l].state = .armed ∨ s.lines[l].state = .disarming then refuse s .badState
        else
          let dropped := s.dropFoldRefs l
          { state := dropped.setLine l (dropped.lines[l].configure rq.host sense filter policy)
            status := .ok
            payload := [] }
      | _, _, _, _ => refuse s .badArg
    | _ => refuse s .badArg

def execLineConfigure (host : HostId) (tag : Byte) (payload : List Byte) (s : State) :
    Host.Outcome State Fault Refusal :=
  takeRow 0x30#8 lineConfigureReply host tag payload s

/-! ### LINE_ARM and LINE_RELEASE (R68) -/

/-- The checks that LINE_ARM and LINE_RELEASE share, stage by stage over the whole set (R68, R182). -/
def lineSetCheck (rq : Request) (s : State) (named : LineSet) : Option Status :=
  if named = 0#16 then some .badArg
  else if (s.anyLine named fun l => l.owner != some rq.host) && !s.isSupervisor rq.host then
    some .notOwner
  else if s.anyLine named fun l => l.state != .disarmed then some .badState
  else none

def lineArmReply (rq : Request) (s : State) : Reply :=
  ifAttached rq s <|
    match rq.payload with
    | [hi, lo] =>
      match lineSetCheck rq s (half hi lo) with
      | some status => refuse s status
      | none =>
        { state := s.mapLines (half hi lo) fun l => { l with state := .armed }
          status := .ok
          payload := [] }
    | _ => refuse s .badArg

def execLineArm (host : HostId) (tag : Byte) (payload : List Byte) (s : State) :
    Host.Outcome State Fault Refusal :=
  takeRow 0x31#8 lineArmReply host tag payload s

/-- The fold references of every line of a set dropped (R68, R72). -/
def State.dropFoldRefsOf (s : State) (named : LineSet) : State :=
  (members named).foldl State.dropFoldRefs s

def lineReleaseReply (rq : Request) (s : State) : Reply :=
  ifAttached rq s <|
    match rq.payload with
    | [hi, lo] =>
      match lineSetCheck rq s (half hi lo) with
      | some status => refuse s status
      | none =>
        { state := (s.dropFoldRefsOf (half hi lo)).mapLines (half hi lo)
            Line.unconfigured
          status := .ok
          payload := [] }
    | _ => refuse s .badArg

def execLineRelease (host : HostId) (tag : Byte) (payload : List Byte) (s : State) :
    Host.Outcome State Fault Refusal :=
  takeRow 0x33#8 lineReleaseReply host tag payload s

/-! ### LINE_DISARM (R66) -/

/-- The state after a LINE_DISARM (R66). -/
def Line.disarm (l : Line) : Line :=
  match l.state with
  | .armed => { l with state := if l.qualification.isSome then .disarming else .disarmed }
  | _ => l

def lineDisarmReply (rq : Request) (s : State) : Reply :=
  ifAttached rq s <|
    match rq.payload with
    | [hi, lo] =>
      let named := half hi lo
      if named = 0#16 then refuse s .badArg
      else if (s.anyLine named fun l => l.ownedByOther rq.host) && !s.isSupervisor rq.host then
        refuse s .notOwner
      else if s.anyLine named fun l => l.state == .unset then refuse s .badState
      else
        let t := s.mapLines named Line.disarm
        { state := t
          status := .ok
          payload := halfBytes (setOf fun l => holds named l && t.lines[l].state == .disarming) }
    | _ => refuse s .badArg

def execLineDisarm (host : HostId) (tag : Byte) (payload : List Byte) (s : State) :
    Host.Outcome State Fault Refusal :=
  takeRow 0x32#8 lineDisarmReply host tag payload s

/-! ### LINE_STATUS (R75) -/

/-- The first 25 bytes of a LINE_STATUS response, those of the line itself (R75). -/
def Line.statusBytes (l : Line) : List Byte :=
  [l.state.byte, ownerByte l.owner, l.sense.byte] ++ halfBytes (l.filter.setWidth 16)
    ++ [l.policy.byte, l.flags]
    ++ wordBytes (match l.qualification with | none => 0 | some q => q.t0)
    ++ halfBytes (match l.qualification with | none => 0 | some q => q.filter.setWidth 16)
    ++ timeBytes l.lastRise ++ timeBytes l.lastFall ++ halfBytes l.edges ++ halfBytes l.glitches

def lineStatusReply (rq : Request) (s : State) : Reply :=
  ifAttached rq s <|
    match rq.payload with
    | [line] =>
      match numbered 16 line with
      | none => refuse s .badArg
      | some l =>
        { state := s
          status := .ok
          payload := s.lines[l].statusBytes ++ halfBytes s.settledLevels }
    | _ => refuse s .badArg

def execLineStatus (host : HostId) (tag : Byte) (payload : List Byte) (s : State) :
    Host.Outcome State Fault Refusal :=
  takeRow 0x34#8 lineStatusReply host tag payload s

/-! ### Reporting an edge (R69 to R73) -/

/-- The record kind of an edge on a line (R6). -/
def EdgeKind.recordKind : EdgeKind → Kind
  | .rise => .lineRise
  | .fall => .lineFall

/-- The edge kind is in the sense (R59). -/
def Sense.includes : Sense → EdgeKind → Bool
  | .both, _ => true
  | .rise, k => k == .rise
  | .fall, k => k == .fall

/-- The offer of an edge as a new record (R6, R70). -/
def edgeOffer (l : LineId) (k : EdgeKind) (t0 : HubTime) (snapshot : LineSet) : Offer :=
  ⟨k.recordKind, .line l, t0, .line snapshot none, 0⟩

/-- The record in slot `i` becomes the line's fold target, and the line's fold reference refers to it
(R17). -/
def State.setFoldTarget (s : State) (i : SlotId) (l : LineId) (k : EdgeKind) : State :=
  let t := s.setLine l (s.lines[l].setFoldRef k (some i))
  match t.slots[i] with
  | none => t
  | some r => t.setSlot i (some { r with foldTarget := some (l, k) })

/-- The edge offered as a new record; under FIRST and LATEST a record created becomes the line's fold
target (R17, R70, R71). -/
def State.offerEdge (s : State) (l : LineId) (k : EdgeKind) (t0 : HubTime) (snapshot : LineSet) :
    State :=
  let taken := s.offer (edgeOffer l k t0 snapshot)
  match taken.2 with
  | .created i _ _ => if s.lines[l].policy = .each then taken.1 else taken.1.setFoldTarget i l k
  | _ => taken.1

/-- The record part of a report: an offer, or a fold into the record the line holds open for that kind
(R70, R71). -/
def State.recordEdge (s : State) (l : LineId) (k : EdgeKind) (t0 : HubTime) (snapshot : LineSet) :
    State :=
  match s.lines[l].policy, s.lines[l].foldRef k with
  | .each, _ => s.offerEdge l k t0 snapshot
  | _, none => s.offerEdge l k t0 snapshot
  | policy, some i => s.foldRecord i policy t0 snapshot

/-- A reported edge (R69, R73): every bound output fires, and the pool takes the reflex offers in
ascending order with the line's own offer or fold among them, where Config.reflexOffersFirst puts it
(log 8). That it takes them all within the edge, so that no session end of an owner and no offer of
another event comes in between, is the model's choice where R12, R127, R128 and R137 leave it open
(log 23). -/
def State.reportEdge (s : State) (l : LineId) (k : EdgeKind) (t0 : HubTime) (snapshot : LineSet) :
    State :=
  let fired := s.fireReflexes l k
  match fired.reflexOffers l k t0 with
  | [] => fired.recordEdge l k t0 snapshot
  | o :: os =>
    let n := Config.reflexOffersFirst fired.draws
    ((({ fired with draws := fired.draws + 1 }.takeOffers ((o :: os).take n)).recordEdge
      l k t0 snapshot).takeOffers ((o :: os).drop n))

/-- The kind of the edge that flips a settled level (R59). -/
def Level.edgeFrom : Level → EdgeKind
  | .low => .rise
  | .high => .fall

/-- The line after a qualified edge: the settled level flips, the last rise or fall time is t0, the
edge count counts, the qualification ends (R62, steps 1 to 4). -/
def Line.qualify (x : Line) (t0 : HubTime) : Line :=
  { x with
    settled := x.settled.other
    lastRise := if x.settled = .low then some t0 else x.lastRise
    lastFall := if x.settled = .high then some t0 else x.lastFall
    edges := x.edges + 1#16
    qualification := none }

/-- The line reports edges of this kind (R69). -/
def Line.reports (x : Line) (k : EdgeKind) : Bool :=
  (x.state == .armed || x.state == .disarming) && x.sense.includes k

/-- DISARMING ends with the qualification (R67). -/
def Line.endDisarming (x : Line) : Line :=
  { x with state := if x.state = .disarming then .disarmed else x.state }

/-- A qualified edge, whole: the statistics, the report if the line makes one, and the end of
DISARMING (R62, R67, R69). The snapshot is taken once the settled level has flipped. -/
def State.qualifyEdge (s : State) (l : LineId) (t0 : HubTime) : State :=
  let k := s.lines[l].settled.edgeFrom
  let flipped := s.setLine l (s.lines[l].qualify t0)
  let reported :=
    if s.lines[l].reports k then flipped.reportEdge l k t0 flipped.settledLevels else flipped
  reported.setLine l reported.lines[l].endDisarming

/-! ### QUALIFICATION_START, GLITCH, QUALIFIED_EDGE (R60 to R62) -/

/-- A qualification starts with the hub time of the tick and the line's filter time. With a filter
time of 0 it ends at once, with a qualified edge (R60). -/
def State.startQualification (s : State) (l : LineId) : State :=
  if s.lines[l].filter = 0#12 then s.qualifyEdge l s.hubTime
  else
    s.setLine l
      { s.lines[l] with
        qualification := some { t0 := s.hubTime, filter := s.lines[l].filter, elapsed := 0 } }

def execQualificationStart (line : LineId) (s : State) : Host.Outcome State Fault Refusal :=
  if s.startDue line then .next (s.startQualification line) else .refused .notDue

/-- A glitch (R61, R67). -/
def Line.endInGlitch (x : Line) : Line :=
  { x with glitches := saturate x.glitches, qualification := none }

def execGlitch (line : LineId) (s : State) : Host.Outcome State Fault Refusal :=
  if s.glitchDue line then .next (s.setLine line s.lines[line].endInGlitch.endDisarming)
  else .refused .notDue

/-- QUALIFIED_EDGE: the qualification in progress completes (R62); with a filter time of 0 it starts
and completes at the same tick (R60, log 5). -/
def execQualifiedEdge (line : LineId) (s : State) : Host.Outcome State Fault Refusal :=
  match s.lines[line].qualification with
  | some q => if s.edgeDue line then .next (s.qualifyEdge line q.t0) else .refused .notDue
  | none =>
    if s.startDue line && s.lines[line].filter == 0#12 then .next (s.qualifyEdge line s.hubTime)
    else .refused .notDue

end Sys2Proof.Machine
end

