-- ==== Sys2Proof/Machine/Ports.lean ====
section
/-!
DEFINITION. The frame events of a host port: SELECT_FALLS, SELECT_RISES, FRAME_ERROR,
FRAME_REFUSED_FOR_LENGTH, FRAME_DISCARDED and RESPONSE_SENT (chapter 9). BYTE_COMPLETES stands in
Machine/Wire.lean.
-/

namespace Sys2Proof.Machine

/-! ### Select (R174, R177, R181, R187) -/

/-- A port whose select has just fallen: RECEIVING with an empty frame in progress (R174). -/
def Port.selected (p : Port) : Port :=
  { p with selectLow := true, receiver := .receiving [] 0#8 }

/-- A port whose select has just risen: DESELECTED, SDO not driven (R174). -/
def Port.deselected (p : Port) : Port :=
  { p with selectLow := false, receiver := .deselected, sdo := none }

/-- At least one byte of a request frame has completed, and its CRC byte has not (R177). -/
def Port.midFrame (p : Port) : Bool :=
  match p.receiver with
  | .receiving bytes _ => !bytes.isEmpty
  | _ => false

/-- A port that discards the frame in progress at the rise of select (R177). -/
def Port.discardFrame (p : Port) : Port :=
  { p.deselected with discarded := saturate p.discarded }

/-- SELECT_FALLS: possible only while select is high (R174, log 3). -/
def execSelectFalls (host : HostId) (s : State) : Host.Outcome State Fault Refusal :=
  if s.ports[host].selectLow then .refused .cannotReachPort
  else .next (s.setPort host s.ports[host].selected)

/-- SELECT_RISES: DESELECTED from every state. In RECEIVING after a byte it discards the frame
(R174, R177); everywhere else it counts nothing (R176, R181, R187, log 13). -/
def execSelectRises (host : HostId) (s : State) : Host.Outcome State Fault Refusal :=
  if s.ports[host].midFrame then .next (s.setPort host s.ports[host].discardFrame)
  else .next (s.setPort host s.ports[host].deselected)

/-- FRAME_DISCARDED: select rises in RECEIVING, after a byte and before the CRC byte (R177). -/
def execFrameDiscarded (host : HostId) (s : State) : Host.Outcome State Fault Refusal :=
  if s.ports[host].midFrame then .next (s.setPort host s.ports[host].discardFrame)
  else .refused .cannotReachPort

/-! ### Frames that are not taken (R176, R179) -/

/-- Every byte of the frame in progress but its CRC has arrived (R175). -/
def frameComplete : List Byte → Bool
  | _ :: _ :: length :: rest => decide (length.toNat ≤ rest.length)
  | _ => false

/-- One more frame error on the port's count (R176, R179). -/
def Port.countFrameError (p : Port) : Port := { p with frameErrors := saturate p.frameErrors }

/-- The port refuses a frame for its length and skips the rest of the select period (R176). -/
def Port.skip (p : Port) : Port :=
  { p.countFrameError with receiver := .skipping, sdo := some idleByte }

/-- FRAME_REFUSED_FOR_LENGTH: the length byte, the third of a frame, completes above 200 (R176). -/
def execFrameRefusedForLength (host : HostId) (length : Byte) (s : State) :
    Host.Outcome State Fault Refusal :=
  match s.ports[host].receiver with
  | .receiving [_, _] _ =>
    if maxPayload < length.toNat then .next (s.setPort host s.ports[host].skip)
    else .refused .cannotReachPort
  | _ => .refused .cannotReachPort

/-- The FRAME_ERROR response: the tag as received, the present hub time, no payload (R179). -/
def frameErrorResponse (tag : Byte) (now : HubTime) : Response := ⟨.frameError, tag, now, []⟩

/-- A frame error, whole: counted and answered, nothing taken, nothing stored (R179). The 4 µs that R181
counts from a taking are counted here from the completion of the CRC byte (log 19). -/
def State.failFrame (s : State) (h : HostId) (tag : Byte) : State :=
  (s.setPort h s.ports[h].countFrameError).startAnswer h (frameErrorResponse tag s.hubTime)

/-- FRAME_ERROR: the CRC byte completes with a value that is not the running CRC (R178, R179). -/
def execFrameError (host : HostId) (crc : Byte) (s : State) : Host.Outcome State Fault Refusal :=
  match s.ports[host].receiver with
  | .receiving bytes running =>
    if frameComplete bytes && crc != running then .next (s.failFrame host (bytes.getD 1 0#8))
    else .refused .frameNotReceived
  | _ => .refused .frameNotReceived

/-! ### The end of a response (R181) -/

/-- A port whose response has been sent to the end: what was left of it has been clocked out, and SDO
has carried its last byte (R181, log 12). -/
def Port.finish (p : Port) (rest : List Byte) : Port :=
  { p with
    receiver := .finished
    sdo := match rest.getLast? with
      | none => p.sdo
      | some last => some last }

/-- RESPONSE_SENT: the last byte of the response has been clocked out and the receiver enters FINISHED;
what no BYTE_COMPLETES has clocked is clocked out with it (R174, R181, log 12). -/
def execResponseSent (host : HostId) (s : State) : Host.Outcome State Fault Refusal :=
  match s.ports[host].receiver with
  | .answering _ rest _ => .next (s.setPort host (s.ports[host].finish rest))
  | _ => .refused .cannotReachPort

end Sys2Proof.Machine
end

