-- ==== Sys2Proof/Machine/Sessions.lean ====
section
/-!
DEFINITION. The commands of the Session Controller: ATTACH, DETACH, EVICT, RESTART_HUB, HUB_STATUS,
SEND_NOTE and the supervision expiry (chapter 7).
-/

namespace Sys2Proof.Machine

/-! ### ATTACH (R142) -/

/-- The session an ATTACH opens (R142, steps 1 to 4). -/
def Session.opened (x : Session) (period : Byte) : Session :=
  { x with
    state := .attached, number := x.number + 1#8, notice := false, loss := .noLoss
    period := period, timer := fullTimer period }

/-- ATTACH carried out, up to its offer: the session opens and both attention sets are cleared
(R142, R169). -/
def State.openSession (s : State) (h : HostId) (period : Byte) : State :=
  let opened := s.sessions[h].opened period
  (s.setSession h opened).setAttention h (Attention.cleared opened)

/-- The HOST_ATTACHED offer (R9, R142). -/
def attachedOffer (h : HostId) (number : Byte) (takenAt : HubTime) : Offer :=
  ⟨.hostAttached, .host h, takenAt, .session number, 0⟩

def attachReply (rq : Request) (s : State) : Reply :=
  if s.isAttached rq.host then refuse s .alreadyAttached
  else
    match rq.payload with
    | [period] =>
      let t := s.openSession rq.host period
      let number := t.sessions[rq.host].number
      { state := (t.offer (attachedOffer rq.host number rq.takenAt)).1
        status := .ok
        payload := [number, t.sessions[rq.host].privilege.byte] }
    | _ => refuse s .badArg

def execAttach (host : HostId) (tag : Byte) (payload : List Byte) (s : State) :
    Host.Outcome State Fault Refusal :=
  takeRow 0x01#8 attachReply host tag payload s

/-! ### DETACH (R147) -/

def detachReply (rq : Request) (s : State) : Reply :=
  ifAttached rq s <|
    if rq.payload ≠ [] then refuse s .badArg
    else
      { state := s.endSession rq.host .detach
        status := .ok
        payload := [s.sessions[rq.host].number] }

def execDetach (host : HostId) (tag : Byte) (payload : List Byte) (s : State) :
    Host.Outcome State Fault Refusal :=
  takeRow 0x02#8 detachReply host tag payload s

/-! ### EVICT (R148, R149) -/

def evictReply (rq : Request) (s : State) : Reply :=
  ifAttached rq s <|
    match rq.payload with
    | [b] =>
      match numbered 4 b with
      | none => refuse s .badArg
      | some target =>
        if target = rq.host then refuse s .badArg
        else if s.isSupervisor rq.host = false then refuse s .privilege
        else if s.isSupervisor target then refuse s .privilege
        else if s.isAttached target = false then refuse s .badState
        else
          { state := s.endSession target (.evict rq.host)
            status := .ok
            payload := [s.sessions[target].number] }
    | _ => refuse s .badArg

def execEvict (host : HostId) (tag : Byte) (payload : List Byte) (s : State) :
    Host.Outcome State Fault Refusal :=
  takeRow 0x03#8 evictReply host tag payload s

/-! ### RESTART_HUB (R157, R158) -/

/-- A session after a soft restart (R158). -/
def Session.restarted (x : Session) : Session :=
  { x with state := .detached, notice := true, loss := .noLoss, period := 0, timer := none }

/-- A soft restart, whole (R29, R58, R79, R93, R114, R136, R158, R171, R187). Every stored response is
cleared here; the caller's RESTART_HUB response is stored after it and so is kept (R187). -/
def State.softRestart (s : State) : State :=
  { s with
    slots := Vector.replicate 64 none
    queues := Vector.replicate 4 { entries := [], pendingMisses := 0, missedTotal := 0, threshold := 1 }
    subscriptions := Vector.replicate 4 { rise := 0, fall := 0, session := false, time := false }
    lines := s.lines.map Line.unconfigured
    watches := Vector.replicate 16 Watch.blank
    outputs := s.outputs.map Output.release
    sessions := s.sessions.map Session.restarted
    resetCause := .soft
    attention := s.sessions.map fun x => Attention.cleared x.restarted
    ports := s.ports.map fun p => { p with stored := none } }

def restartHubReply (rq : Request) (s : State) : Reply :=
  ifAttached rq s <|
    if rq.payload ≠ [] then refuse s .badArg
    else if s.isSupervisor rq.host = false then refuse s .privilege
    else
      { state := s.softRestart
        status := .ok
        payload := hostSetByte s.attachedSet :: halfBytes s.nextSeq }

def execRestartHub (host : HostId) (tag : Byte) (payload : List Byte) (s : State) :
    Host.Outcome State Fault Refusal :=
  takeRow 0x04#8 restartHubReply host tag payload s

/-! ### HUB_STATUS (R154) -/

/-- The session state of each host, two bits per host, H0 in the two least significant bits (R154). -/
def State.hostStates (s : State) : Byte :=
  s.sessions[3].state.code ++ s.sessions[2].state.code ++ s.sessions[1].state.code
    ++ s.sessions[0].state.code

def hubStatusReply (rq : Request) (s : State) : Reply :=
  if rq.payload ≠ [] then refuse s .badArg
  else
    let x := s.sessions[rq.host]
    let p := s.ports[rq.host]
    { state := s
      status := .ok
      payload :=
        [s.resetCause.byte, x.state.code.setWidth 8, x.privilege.byte, flagByte x.notice, x.loss.byte,
          x.number, x.period, s.hostStates, numberByte s.freeCount]
        ++ halfBytes s.exhaustion ++ halfBytes s.nextSeq ++ halfBytes s.epoch
        ++ [p.discarded, p.frameErrors] }

def execHubStatus (host : HostId) (tag : Byte) (payload : List Byte) (s : State) :
    Host.Outcome State Fault Refusal :=
  takeRow 0x05#8 hubStatusReply host tag payload s

/-! ### SEND_NOTE (R155) -/

/-- The NOTE offer (R8, R155). -/
def noteOffer (sender : HostId) (takenAt : HubTime) (note : List Byte) (targets : HostSet) : Offer :=
  ⟨.note, .host sender, takenAt, .note note, targets⟩

/-- The SEND_NOTE response for each outcome of its offer (R17, R18, R155); `seq` is the sequence the
next record would take. An unrouted offer cannot come here, since its targets are attached. -/
def noteReply (before after : State) : OfferResult → Reply
  | .unrouted => refuse before .noTarget
  | .noSlot => refuse before .poolFull
  | .allMissed missed =>
    { state := after, status := .ok
      payload := [0#8] ++ halfBytes 0#16 ++ [hostSetByte 0#4, hostSetByte missed] }
  | .created _ recipients missed =>
    { state := after, status := .ok
      payload := [1#8] ++ halfBytes before.nextSeq ++ [hostSetByte recipients, hostSetByte missed] }

def sendNoteReply (rq : Request) (s : State) : Reply :=
  ifAttached rq s <|
    match rq.payload with
    | [] => refuse s .badArg
    | targets :: note =>
      if note = [] ∨ 8 < note.length then refuse s .badArg
      else
        match hostSet? targets with
        | none => refuse s .badArg
        | some named =>
          if named = 0#4 then refuse s .badArg
          else if named &&& s.attachedSet = 0#4 then refuse s .noTarget
          else
            let taken := s.offer (noteOffer rq.host rq.takenAt note (named &&& s.attachedSet))
            noteReply s taken.1 taken.2

def execSendNote (host : HostId) (tag : Byte) (payload : List Byte) (s : State) :
    Host.Outcome State Fault Refusal :=
  takeRow 0x07#8 sendNoteReply host tag payload s

/-! ### SUPERVISION_EXPIRY (R145) -/

/-- The supervision timer of an attached host has reached 0: its session ends with reason TIMEOUT
(R145). It cannot come before (log 3). -/
def execSupervisionExpiry (host : HostId) (s : State) : Host.Outcome State Fault Refusal :=
  if s.sessions[host].expiryDue then .next (s.endSession host .timeout) else .refused .notDue

end Sys2Proof.Machine
end

