-- ==== Sys2Proof/Machine/TimeBase.lean ====
section
/-!
DEFINITION. The commands of the Time Base: READ_TIME, ADJUST_TIME, TICK and TIME_WRAP (chapter 4).
-/

namespace Sys2Proof.Machine

/-! ### READ_TIME (R87) -/

def readTimeReply (rq : Request) (s : State) : Reply :=
  if rq.payload ≠ [] then refuse s .badArg
  else { state := s, status := .ok, payload := wordBytes s.hubTime ++ halfBytes s.epoch }

def execReadTime (host : HostId) (tag : Byte) (payload : List Byte) (s : State) :
    Host.Outcome State Fault Refusal :=
  takeRow 0x10#8 readTimeReply host tag payload s

/-! ### ADJUST_TIME (R88, R89) -/

/-- The TIME_ADJUSTED offer (R10, R89). -/
def adjustedOffer (adjuster : HostId) (timestamp offset : HubTime) : Offer :=
  ⟨.timeAdjusted, .hub, timestamp, .adjusted offset adjuster, 0⟩

/-- Whether the record was created, and its sequence, 0 otherwise (R88). -/
def createdBytes (seq : Half) : OfferResult → List Byte
  | .created _ _ _ => 1#8 :: halfBytes seq
  | _ => 0#8 :: halfBytes 0#16

def adjustTimeReply (rq : Request) (s : State) : Reply :=
  ifAttached rq s <|
    match rq.payload with
    | [b3, b2, b1, b0] =>
      let offset := word b3 b2 b1 b0
      if offset = 0#32 then refuse s .badArg
      else if s.isSupervisor rq.host = false then refuse s .privilege
      else
        let adjusted := s.hubTime + offset
        let taken := { s with hubTime := adjusted }.offer (adjustedOffer rq.host adjusted offset)
        { state := taken.1
          status := .ok
          payload := wordBytes adjusted ++ halfBytes s.epoch ++ createdBytes s.nextSeq taken.2 }
    | _ => refuse s .badArg

def execAdjustTime (host : HostId) (tag : Byte) (payload : List Byte) (s : State) :
    Host.Outcome State Fault Refusal :=
  takeRow 0x11#8 adjustTimeReply host tag payload s

/-! ### TICK and TIME_WRAP (R83, R84, R91) -/

/-- The largest hub time, from which counting wraps (R84). -/
def lastHubTime : HubTime := 0xFFFFFFFF#32

def Qualification.tick (q : Qualification) : Qualification := { q with elapsed := q.elapsed + 1 }

def Line.tick (l : Line) : Line := { l with qualification := l.qualification.map Qualification.tick }

/-- R99. -/
def Watch.tick (w : Watch) : Watch :=
  if w.state = .free then w else { w with ticks := w.ticks - 1 }

/-- R122. -/
def Output.tick (o : Output) : Output :=
  { o with pulse := o.pulse.map fun p => { p with count := p.count.tick } }

/-- R144. -/
def Session.tick (x : Session) : Session := { x with timer := x.timer.map Countdown.tick }

/-- The time since the taking, against which the 4 µs of R181 are counted. -/
def Port.tick (p : Port) : Port :=
  match p.receiver with
  | .answering ready rest age => { p with receiver := .answering ready rest (age + 1) }
  | _ => p

/-- The Time Base hands a tick to the blocks that measure elapsed time, and the Line Monitor samples
the raw levels (R60, R83, R91). -/
def State.handTick (s : State) (levels : LineSet) : State :=
  { s with
    sample := levels
    lines := s.lines.map Line.tick
    watches := s.watches.map Watch.tick
    outputs := s.outputs.map Output.tick
    sessions := s.sessions.map Session.tick
    ports := s.ports.map Port.tick }

/-- The count of a tick that is not a wrap (R83). -/
def State.count (s : State) : State := { s with hubTime := s.hubTime + 1#32, countOwed := false }

/-- A tick handed out whose count is still to come: reads of hub time taken before the count read it as
it was, reads taken after it one greater (R90, log 6). -/
def State.handOut (s : State) (levels : LineSet) : State :=
  { s.handTick levels with countOwed := true }

/-- A tick may come: nothing of the tick before, an event or its count, is still to be taken (log 4). -/
def State.mayTick (s : State) : Bool := !s.eventsDue && !s.countOwed

/-- TICK, whole or in its parts (R83). R90 lets an event that the tick makes due read hub time before or
after the tick's count: `whole` counts first, `handedOut` leaves the count to `counted`, which comes when
the command does. No bound ties the reads of one tick together: two requests of it may carry taken-at
times that differ by one (log 21), and a t0 read before its count may lie one below the bound of R92
(log 22). A count at the largest hub time is the wrap, which TIME_WRAP makes (R84); one that an
ADJUST_TIME has taken away from there is a plain count (R90). -/
def execTick (event : TickEvent) (s : State) : Host.Outcome State Fault Refusal :=
  match event with
  | .whole levels =>
    if s.mayTick = false then .refused .eventsDue
    else if s.hubTime = lastHubTime then .next (s.handOut levels)
    else .next (s.count.handTick levels)
  | .handedOut levels =>
    if s.mayTick = false then .refused .eventsDue else .next (s.handOut levels)
  | .counted =>
    if s.countOwed && s.hubTime != lastHubTime then .next s.count else .refused .notDue

/-- The TIME_WRAP offer (R10, R84). -/
def wrapOffer (epoch : Half) : Offer := ⟨.timeWrap, .hub, 0#32, .wrap epoch, 0⟩

/-- The wrap, whole (R84): hub time 0, the epoch counts, the record is offered. -/
def State.wrap (s : State) : State :=
  let epoch := s.epoch + 1#16
  ({ s with hubTime := 0#32, epoch := epoch, countOwed := false }.offer (wrapOffer epoch)).1

/-- TIME_WRAP: counting passes from the largest hub time to 0 (R84). Where TICK has handed the tick
out, this is its count; otherwise it is that whole tick, `levels` its samples (log 6). -/
def execTimeWrap (levels : LineSet) (s : State) : Host.Outcome State Fault Refusal :=
  if s.hubTime ≠ lastHubTime then .refused .notDue
  else if s.countOwed then .next s.wrap
  else if s.eventsDue then .refused .eventsDue
  else .next (s.handTick levels).wrap

end Sys2Proof.Machine
end

