-- ==== Sys2Proof/Machine/Watches.lean ====
section
/-!
DEFINITION. The commands of the Watch Table and the check of an entry: WATCH_INSTALL, WATCH_CANCEL,
WATCH_READ and CHECK_EXPIRY (chapter 5).
-/

namespace Sys2Proof.Machine

/-! ### WATCH_INSTALL (R96, R97) -/

/-- The ticks of an entry's period, P × 100 (R97, R99). -/
def periodTicks (period : Half) : Nat := period.toNat * 100

/-- The arguments of a WATCH_INSTALL (R96). -/
structure InstallArgs where
  tag : Byte
  mask : LineSet
  pattern : LineSet
  period : Half
  confirm : Byte
  deadline : Half
  mode : WatchMode
  notify : HostSet
  deriving DecidableEq, Repr

/-- The ranges of R96 that hold among the argument fields. -/
def InstallArgs.inRange (a : InstallArgs) : Bool :=
  a.mask != 0#16 && a.period != 0#16 && a.confirm != 0#8 && decide (a.confirm.toNat ≤ 16)
    && (a.deadline == 0#16 || decide (a.confirm.toNat ≤ a.deadline.toNat))

/-- The arguments of a WATCH_INSTALL payload, if every check of stage 3 passes (R96). -/
def installArgs? : List Byte → Option InstallArgs
  | [tag, m1, m0, p1, p0, t1, t0, confirm, d1, d0, mode, notify] =>
    match watchMode? mode, hostSet? notify with
    | some mode, some notify =>
      let a : InstallArgs :=
        ⟨tag, half m1 m0, half p1 p0, half t1 t0, confirm, half d1 d0, mode, notify⟩
      if a.inRange then some a else none
    | _, _ => none
  | _ => none

/-- The entry an install sets (R97). -/
def InstallArgs.entry (a : InstallArgs) (owner : HostId) (attached : HostSet) : Watch where
  state := .waiting
  owner := some owner
  tag := a.tag
  mask := a.mask
  pattern := a.pattern &&& a.mask
  period := a.period
  confirm := a.confirm
  deadline := a.deadline
  mode := a.mode
  notify := a.notify &&& attached
  checks := 0
  consecutive := 0
  ticks := periodTicks a.period

def watchInstallReply (rq : Request) (s : State) : Reply :=
  ifAttached rq s <|
    match installArgs? rq.payload with
    | none => refuse s .badArg
    | some a =>
      match s.freeWatch? with
      | none => refuse s .tableFull
      | some w =>
        let entry := a.entry rq.host s.attachedSet
        { state := s.setWatch w entry
          status := .ok
          payload := [numberByte w.val, hostSetByte entry.notify] }

def execWatchInstall (host : HostId) (tag : Byte) (payload : List Byte) (s : State) :
    Host.Outcome State Fault Refusal :=
  takeRow 0x40#8 watchInstallReply host tag payload s

/-! ### WATCH_CANCEL (R108) -/

def watchCancelReply (rq : Request) (s : State) : Reply :=
  ifAttached rq s <|
    match rq.payload with
    | [index] =>
      match numbered 16 index with
      | none => refuse s .badArg
      | some w =>
        let e := s.watches[w]
        if e.state ≠ .free ∧ e.owner ≠ some rq.host ∧ s.isSupervisor rq.host = false then
          refuse s .notOwner
        else if e.state = .free then refuse s .noEntry
        else
          { state := s.setWatch w Watch.blank
            status := .ok
            payload := [e.state.byte, ownerByte e.owner, e.tag] }
    | _ => refuse s .badArg

def execWatchCancel (host : HostId) (tag : Byte) (payload : List Byte) (s : State) :
    Host.Outcome State Fault Refusal :=
  takeRow 0x41#8 watchCancelReply host tag payload s

/-! ### WATCH_READ (R110) -/

/-- The 21 bytes of an entry (R110). -/
def Watch.statusBytes (w : Watch) : List Byte :=
  [w.state.byte, ownerByte w.owner, w.tag] ++ halfBytes w.mask ++ halfBytes w.pattern
    ++ halfBytes w.period ++ [w.confirm] ++ halfBytes w.deadline ++ [w.mode.byte, hostSetByte w.notify]
    ++ halfBytes w.checks ++ [w.consecutive] ++ ticksBytes w.ticks

def watchReadReply (rq : Request) (s : State) : Reply :=
  ifAttached rq s <|
    match rq.payload with
    | [index] =>
      match numbered 16 index with
      | none => refuse s .badArg
      | some w => { state := s, status := .ok, payload := s.watches[w].statusBytes }
    | _ => refuse s .badArg

def execWatchRead (host : HostId) (tag : Byte) (payload : List Byte) (s : State) :
    Host.Outcome State Fault Refusal :=
  takeRow 0x42#8 watchReadReply host tag payload s

/-! ### CHECK_EXPIRY (R99 to R104) -/

/-- The sample of a check: the settled levels of the lines in the mask (R100). -/
def Watch.sampleOf (w : Watch) (settled : LineSet) : LineSet := settled &&& w.mask

/-- What a check makes of an entry. -/
inductive CheckResult
  /-- The entry goes on as `entry`. -/
  | goesOn (entry : Watch)
  /-- The entry ends in a match (R102). -/
  | matched (entry : Watch)
  /-- The entry ends in a timeout (R103). -/
  | timedOut
  deriving DecidableEq, Repr

/-- The entry after a check that ends it in a match: FREE, or REARMING in mode REPEAT (R102). -/
def Watch.afterMatch (w : Watch) (checks : Half) : Watch :=
  match w.mode with
  | .once => Watch.blank
  | .repeating =>
    { w with state := .rearming, checks := checks, consecutive := 0, ticks := periodTicks w.period }

/-- A check of an entry in use (R101, R104). The table of section 5.3 gathers its outcomes. -/
def Watch.check (w : Watch) (matching : Bool) : CheckResult :=
  if w.state = .rearming then
    if matching then .goesOn { w with ticks := periodTicks w.period }
    else .goesOn { w with state := .waiting, checks := 0, ticks := periodTicks w.period }
  else
    let checks := saturate w.checks
    let consecutive := if matching then w.consecutive + 1#8 else 0#8
    if matching && consecutive == w.confirm then .matched (w.afterMatch checks)
    else if w.deadline ≠ 0#16 ∧ checks = w.deadline then .timedOut
    else
      .goesOn
        { w with
          state := if matching then .confirming else .waiting
          checks := checks, consecutive := consecutive, ticks := periodTicks w.period }

/-- The record offer of an entry's end (R7, R102, R103). -/
def watchOffer (kind : Kind) (i : WatchId) (w : Watch) (now : HubTime) (settled : LineSet) : Offer :=
  ⟨kind, .watch i, now, .watch w.tag (w.sampleOf settled) (saturate w.checks), w.notify⟩

/-- The end of an entry: the entry's own change, the offer, and the WATCH cause at its owner
(R102, R103, R105). -/
def State.endWatch (s : State) (i : WatchId) (kind : Kind) (after : Watch) : State :=
  let w := s.watches[i]
  let offered := ((s.setWatch i after).offer (watchOffer kind i w s.hubTime s.settledLevels)).1
  match w.owner with
  | none => offered
  | some owner => offered.post owner .watch

/-- CHECK_EXPIRY: the ticks to next check of an entry in use have reached 0, and it makes one check
(R99). It cannot come before (log 3). -/
def execCheckExpiry (entry : WatchId) (s : State) : Host.Outcome State Fault Refusal :=
  if s.watches[entry].checkDue then
    let w := s.watches[entry]
    match w.check (w.sampleOf s.settledLevels == w.pattern) with
    | .goesOn after => .next (s.setWatch entry after)
    | .matched after => .next (s.endWatch entry .watchMatch after)
    | .timedOut => .next (s.endWatch entry .watchTimeout Watch.blank)
  else .refused .notDue

end Sys2Proof.Machine
end

