-- ==== Sys2Proof/Machine/Wire.lean ====
section
/-!
DEFINITION. The bytes of a host port: REPEAT_RESPONSE and UNKNOWN_COMMAND, the command code table
(R188), and BYTE_COMPLETES, which receives a request frame byte by byte and clocks a response out
(chapter 9).
-/

namespace Sys2Proof.Machine

/-! ### REPEAT_RESPONSE (R185) -/

/-- The response a REPEAT_RESPONSE is answered with (R185). -/
def repeatAnswer (tag : Byte) (now : HubTime) (payload : List Byte) : Option Response → Response
  | stored =>
    if payload ≠ [] then ⟨.badArg, tag, now, []⟩
    else
      match stored with
      | none => ⟨.noEntry, tag, now, []⟩
      | some r => r

/-- A REPEAT_RESPONSE taken: the timer restarts and the stored response is sent again. Nothing is
stored (R144, R184, R185). -/
def State.takeRepeat (s : State) (h : HostId) (tag : Byte) (payload : List Byte) : State :=
  (s.restartTimer h).startAnswer h (repeatAnswer tag s.hubTime payload s.ports[h].stored)

def execRepeatResponse (host : HostId) (tag : Byte) (payload : List Byte) (s : State) :
    Host.Outcome State Fault Refusal :=
  if s.ports[host].awaitsCrc 0x06#8 tag payload then .next (s.takeRepeat host tag payload)
  else .refused .frameNotReceived

/-! ### UNKNOWN_COMMAND (R183) -/

def unknownReply (_rq : Request) (s : State) : Reply := refuse s .unknownCommand

/-- UNKNOWN_COMMAND: a request whose code is not in the command code table (R183). -/
def execUnknownCommand (host : HostId) (code tag : Byte) (payload : List Byte) (s : State) :
    Host.Outcome State Fault Refusal :=
  if tableCodes.contains code then .refused .frameNotReceived
  else takeRow code unknownReply host tag payload s

/-! ### The command code table (R188) -/

/-- The command of each code, but for REPEAT_RESPONSE (0x06), which stores no response. A code that is
not in the table is UNKNOWN_COMMAND (R183). -/
def commandOf (code : Byte) : Request → State → Reply :=
  match code.toNat with
  | 0x01 => attachReply
  | 0x02 => detachReply
  | 0x03 => evictReply
  | 0x04 => restartHubReply
  | 0x05 => hubStatusReply
  | 0x07 => sendNoteReply
  | 0x10 => readTimeReply
  | 0x11 => adjustTimeReply
  | 0x20 => subscribeLinesReply
  | 0x21 => subscribeHubReply
  | 0x22 => readSubscriptionsReply
  | 0x23 => readEventsReply
  | 0x24 => ackEventsReply
  | 0x25 => queueStatusReply
  | 0x30 => lineConfigureReply
  | 0x31 => lineArmReply
  | 0x32 => lineDisarmReply
  | 0x33 => lineReleaseReply
  | 0x34 => lineStatusReply
  | 0x40 => watchInstallReply
  | 0x41 => watchCancelReply
  | 0x42 => watchReadReply
  | 0x50 => outClaimReply
  | 0x51 => outReleaseReply
  | 0x52 => outDriveReply
  | 0x53 => outPulseReply
  | 0x54 => outBindReply
  | 0x55 => outUnbindReply
  | 0x56 => outSeizeReply
  | 0x57 => outSafeReply
  | 0x58 => outStatusReply
  | 0x60 => setAttentionReply
  | 0x61 => clearAttentionReply
  | _ => unknownReply

/-- A correct frame is taken, whatever its code (R175, R180, R183). -/
def State.takeFrame (s : State) (h : HostId) (code tag : Byte) (payload : List Byte) : State :=
  if code = 0x06#8 then s.takeRepeat h tag payload
  else s.take h tag payload (commandOf code)

/-! ### BYTE_COMPLETES (R174, R175, R181) -/

/-- The port stores a byte of the frame and runs the CRC over it, SDO carrying IDLE (R174, R175). -/
def Port.storeByte (p : Port) (bytes : List Byte) (crc byte : Byte) : Port :=
  { p with receiver := .receiving (bytes ++ [byte]) (crcByte crc byte), sdo := some idleByte }

/-- A byte of a request frame completes on a RECEIVING port whose frame in progress is `bytes`
(R174 to R176, R179, R180). -/
def State.receiveByte (s : State) (h : HostId) (bytes : List Byte) (crc byte : Byte) : State :=
  match bytes with
  | [_, _] =>
    if maxPayload < byte.toNat then s.setPort h s.ports[h].skip
    else s.setPort h (s.ports[h].storeByte bytes crc byte)
  | code :: tag :: length :: payload =>
    if payload.length < length.toNat then s.setPort h (s.ports[h].storeByte bytes crc byte)
    else if byte = crc then s.takeFrame h code tag payload
    else s.failFrame h tag
  | _ => s.setPort h (s.ports[h].storeByte bytes crc byte)

/-- The response is surely ready once more than four ticks have been handed out since the taking: 4 µs
have then passed (R181, log 9). -/
def surelyReady (age : Nat) : Bool := decide (4 < age)

/-- A byte is clocked in ANSWERING: SDO carries WAIT until the response is ready, then START and the
response. Whether it is ready before 4 µs have passed is a free value (R181, log 9). -/
def State.sendByte (s : State) (h : HostId) (ready : Bool) (rest : List Byte) (age : Nat) : State :=
  let asks := !ready && !surelyReady age
  let starts := ready || surelyReady age || Config.responseReady s.draws
  let drawn := if asks then { s with draws := s.draws + 1 } else s
  match rest with
  | [] => drawn.setPort h { s.ports[h] with receiver := .finished, sdo := some idleByte }
  | b :: more =>
    if starts then
      drawn.setPort h { s.ports[h] with receiver := .answering true more age, sdo := some b }
    else drawn.setPort h { s.ports[h] with sdo := some waitByte }

/-- BYTE_COMPLETES, by the state of the receiver (R174): in DESELECTED it is not read. The byte may be any
of the frame's: the length byte and the CRC byte have the effects that R176, R179 and R180 give
them (log 11). -/
def execByteCompletes (host : HostId) (byte : Byte) (s : State) : Host.Outcome State Fault Refusal :=
  match s.ports[host].receiver with
  | .deselected => .next s
  | .receiving bytes crc => .next (s.receiveByte host bytes crc byte)
  | .skipping => .next (s.setPort host { s.ports[host] with sdo := some idleByte })
  | .answering ready rest age => .next (s.sendByte host ready rest age)
  | .finished => .next (s.setPort host { s.ports[host] with sdo := some idleByte })

end Sys2Proof.Machine
end

