-- ==== Sys2Proof/Machine/Dispatch.lean ====
section
/-!
DEFINITION. The meaning of every command: one arm per constructor of Instr, each one call of its
meaning. A command acts on everything but the queue of waiting commands.
-/

namespace Sys2Proof.Machine

def exec (i : Instr) (s : State) : Host.Outcome State Fault Refusal :=
  match i with
  | .attach host tag payload => Sys2Proof.Machine.execAttach host tag payload s
  | .detach host tag payload => Sys2Proof.Machine.execDetach host tag payload s
  | .evict host tag payload => Sys2Proof.Machine.execEvict host tag payload s
  | .restartHub host tag payload => Sys2Proof.Machine.execRestartHub host tag payload s
  | .hubStatus host tag payload => Sys2Proof.Machine.execHubStatus host tag payload s
  | .repeatResponse host tag payload => Sys2Proof.Machine.execRepeatResponse host tag payload s
  | .sendNote host tag payload => Sys2Proof.Machine.execSendNote host tag payload s
  | .readTime host tag payload => Sys2Proof.Machine.execReadTime host tag payload s
  | .adjustTime host tag payload => Sys2Proof.Machine.execAdjustTime host tag payload s
  | .subscribeLines host tag payload => Sys2Proof.Machine.execSubscribeLines host tag payload s
  | .subscribeHub host tag payload => Sys2Proof.Machine.execSubscribeHub host tag payload s
  | .readSubscriptions host tag payload => Sys2Proof.Machine.execReadSubscriptions host tag payload s
  | .readEvents host tag payload => Sys2Proof.Machine.execReadEvents host tag payload s
  | .ackEvents host tag payload => Sys2Proof.Machine.execAckEvents host tag payload s
  | .queueStatus host tag payload => Sys2Proof.Machine.execQueueStatus host tag payload s
  | .lineConfigure host tag payload => Sys2Proof.Machine.execLineConfigure host tag payload s
  | .lineArm host tag payload => Sys2Proof.Machine.execLineArm host tag payload s
  | .lineDisarm host tag payload => Sys2Proof.Machine.execLineDisarm host tag payload s
  | .lineRelease host tag payload => Sys2Proof.Machine.execLineRelease host tag payload s
  | .lineStatus host tag payload => Sys2Proof.Machine.execLineStatus host tag payload s
  | .watchInstall host tag payload => Sys2Proof.Machine.execWatchInstall host tag payload s
  | .watchCancel host tag payload => Sys2Proof.Machine.execWatchCancel host tag payload s
  | .watchRead host tag payload => Sys2Proof.Machine.execWatchRead host tag payload s
  | .outClaim host tag payload => Sys2Proof.Machine.execOutClaim host tag payload s
  | .outRelease host tag payload => Sys2Proof.Machine.execOutRelease host tag payload s
  | .outDrive host tag payload => Sys2Proof.Machine.execOutDrive host tag payload s
  | .outPulse host tag payload => Sys2Proof.Machine.execOutPulse host tag payload s
  | .outBind host tag payload => Sys2Proof.Machine.execOutBind host tag payload s
  | .outUnbind host tag payload => Sys2Proof.Machine.execOutUnbind host tag payload s
  | .outSeize host tag payload => Sys2Proof.Machine.execOutSeize host tag payload s
  | .outSafe host tag payload => Sys2Proof.Machine.execOutSafe host tag payload s
  | .outStatus host tag payload => Sys2Proof.Machine.execOutStatus host tag payload s
  | .setAttention host tag payload => Sys2Proof.Machine.execSetAttention host tag payload s
  | .clearAttention host tag payload => Sys2Proof.Machine.execClearAttention host tag payload s
  | .unknownCommand host code tag payload => Sys2Proof.Machine.execUnknownCommand host code tag payload s
  | .frameError host crc => Sys2Proof.Machine.execFrameError host crc s
  | .frameRefusedForLength host length => Sys2Proof.Machine.execFrameRefusedForLength host length s
  | .frameDiscarded host => Sys2Proof.Machine.execFrameDiscarded host s
  | .responseSent host => Sys2Proof.Machine.execResponseSent host s
  | .powerOnReset straps levels selects => Sys2Proof.Machine.execPowerOnReset straps levels selects s
  | .externalReset straps levels selects => Sys2Proof.Machine.execExternalReset straps levels selects s
  | .tick event => Sys2Proof.Machine.execTick event s
  | .timeWrap levels => Sys2Proof.Machine.execTimeWrap levels s
  | .qualificationStart line => Sys2Proof.Machine.execQualificationStart line s
  | .glitch line => Sys2Proof.Machine.execGlitch line s
  | .qualifiedEdge line => Sys2Proof.Machine.execQualifiedEdge line s
  | .checkExpiry entry => Sys2Proof.Machine.execCheckExpiry entry s
  | .pulseExpiry output => Sys2Proof.Machine.execPulseExpiry output s
  | .supervisionExpiry host => Sys2Proof.Machine.execSupervisionExpiry host s
  | .selectFalls host => Sys2Proof.Machine.execSelectFalls host s
  | .selectRises host => Sys2Proof.Machine.execSelectRises host s
  | .byteCompletes host byte => Sys2Proof.Machine.execByteCompletes host byte s

end Sys2Proof.Machine
end

