-- ==== Sys2Proof/Safety.lean ====
section
/-!
DEFINITION. What counts as a safe state: the laws that the manual states of the whole device, one
predicate each and all decidable; and the words in which the obligations say what a command answers.
-/

namespace Sys2Proof.Machine

/-- Host `h`'s queue holds an entry that refers to slot `i` (R2). -/
abbrev State.Refers (s : State) (h : HostId) (i : SlotId) : Prop :=
  ∃ e ∈ s.queues[h].entries, e.slot = i

/-- The pool's first law (R2): a slot is in use exactly while some queue refers to it, and its holder
set is exactly the set of the hosts whose queues do. -/
abbrev State.HolderLaw (s : State) : Prop :=
  ∀ i : SlotId,
    (s.slots[i] = none → ∀ h : HostId, ¬ s.Refers h i) ∧
    (∀ r ∈ s.slots[i], r.holders ≠ 0#4 ∧ ∀ h : HostId, holds r.holders h = true ↔ s.Refers h i)

/-- The law of the host queues, less the order of creation (R37): at most 32 entries, no two of one
queue for the same record. -/
abbrev State.QueueLaw (s : State) : Prop :=
  ∀ h : HostId, s.queues[h].entries.length ≤ 32 ∧ (s.queues[h].entries.map Entry.slot).Nodup

/-- Fold references and fold targets are set together and cleared together (R3), and a fold reference
always refers to an OPEN record of that line and that kind (R71). -/
abbrev State.FoldLaw (s : State) : Prop :=
  (∀ l : LineId, ∀ k ∈ [EdgeKind.rise, EdgeKind.fall], ∀ i ∈ s.lines[l].foldRef k,
    ∃ r ∈ s.slots[i], r.shown = false ∧ r.foldTarget = some (l, k) ∧ r.source = .line l ∧
      r.kind = k.recordKind) ∧
  (∀ i : SlotId, ∀ r ∈ s.slots[i], ∀ target ∈ r.foldTarget,
    s.lines[target.1].foldRef target.2 = some i)

/-- The Line Monitor's first law (R64): a DISARMING line has a qualification in progress, and an UNSET
line has no owner and no fold reference. -/
abbrev State.LineLaw (s : State) : Prop :=
  ∀ l : LineId,
    (s.lines[l].state = .disarming → s.lines[l].qualification.isSome = true) ∧
    (s.lines[l].state = .unset → s.lines[l].owner = none ∧
      s.lines[l].foldRise = none ∧ s.lines[l].foldFall = none)

/-- The law of the Watch Table (R95): an entry in use has an ATTACHED owner and only ATTACHED hosts in
its notify set. -/
abbrev State.WatchLaw (s : State) : Prop :=
  ∀ w : WatchId, s.watches[w].state ≠ .free →
    (∃ h ∈ s.watches[w].owner, s.isAttached h = true) ∧
    ∀ h : HostId, holds s.watches[w].notify h = true → s.isAttached h = true

/-- What R94 says of an entry by its state: a FREE entry holds no content, a CONFIRMING entry has from
1 to K − 1 consecutive matches, a WAITING or REARMING entry none. -/
abbrev Watch.CountLaw (w : Watch) : Prop :=
  (w.state = .free → w = Watch.blank) ∧
  (w.state = .confirming → 1 ≤ w.consecutive.toNat ∧ w.consecutive.toNat < w.confirm.toNat) ∧
  (w.state = .waiting ∨ w.state = .rearming → w.consecutive = 0#8) ∧
  (w.state ≠ .free → 1 ≤ w.confirm.toNat ∧ w.confirm.toNat ≤ 16)

/-- The law of the Output Block (R116): an output with no owner drives its safe level and has neither
a pulse nor a binding. -/
abbrev Output.OwnerLaw (o : Output) : Prop :=
  o.owner = none → o.drive = o.safe ∧ o.pulse = none ∧ o.binding = none

/-- What R115 says of a pulse in flight: its level is the drive level, and its return level is the
other one. -/
abbrev Output.PulseLaw (o : Output) : Prop :=
  ∀ p ∈ o.pulse, p.level = o.drive ∧ p.returnLevel = p.level.other

/-- The law of the Session Controller (R141): a host that is not ATTACHED has an empty queue, no
pending misses, no subscriptions, and owns nothing. -/
abbrev State.SessionLaw (s : State) : Prop :=
  ∀ h : HostId, s.isAttached h = false →
    s.queues[h].entries = [] ∧ s.queues[h].pendingMisses = 0#16 ∧
    s.subscriptions[h] = { rise := 0, fall := 0, session := false, time := false } ∧
    (∀ o : OutputId, s.outputs[o].owner ≠ some h) ∧
    (∀ l : LineId, s.lines[l].owner ≠ some h) ∧
    (∀ w : WatchId, s.watches[w].owner ≠ some h)

/-- The notice flag and the loss reason by session state (R153): none while ATTACHED or DETACHED; and what a host that is not ATTACHED
has no part in: a supervision period, a running timer (R138, R151), a posted or enabled cause
(R164). -/
abbrev State.NoticeLaw (s : State) : Prop :=
  ∀ h : HostId,
    (s.sessions[h].state = .attached → s.sessions[h].notice = false ∧ s.sessions[h].loss = .noLoss) ∧
    (s.sessions[h].state = .detached → s.sessions[h].loss = .noLoss) ∧
    (s.sessions[h].state = .lost → s.sessions[h].notice = true ∧ s.sessions[h].loss ≠ .noLoss) ∧
    (s.sessions[h].state ≠ .attached →
      s.sessions[h].period = 0#8 ∧ s.sessions[h].timer = none ∧
      s.attention[h].posted = 0#5 ∧ s.attention[h].enabled = 0#5)

/-- The law of the Attention Unit (R164): an output is asserted exactly when its host is ATTACHED with
a cause both posted and enabled, or is not ATTACHED with its notice flag set. -/
abbrev State.AttentionLaw (s : State) : Prop :=
  ∀ h : HostId, s.attention[h].asserted = true ↔
    (s.sessions[h].state = .attached ∧ s.attention[h].posted &&& s.attention[h].enabled ≠ 0#5) ∨
    (s.sessions[h].state ≠ .attached ∧ s.sessions[h].notice = true)

/-- The frame in progress of a RECEIVING port: its running CRC is the CRC of its bytes, its length
byte is at most 200, and it holds no byte past the last payload byte (R175, R176). -/
abbrev FrameLaw (bytes : List Byte) (crc : Byte) : Prop :=
  crc = crc8 bytes ∧ ∀ length ∈ bytes[2]?, length.toNat ≤ maxPayload ∧ bytes.length ≤ 3 + length.toNat

/-- A port: while its select is high it is DESELECTED and does not drive SDO (R174), and its frame in
progress is well formed. -/
abbrev Port.Law (p : Port) : Prop :=
  (p.selectLow = false → p.receiver = .deselected ∧ p.sdo = none) ∧
  (match p.receiver with
    | .receiving bytes crc => decide (FrameLaw bytes crc)
    | _ => true) = true

/-- The source and detail that each kind of record has (R5 to R11, R189). -/
def Record.formed (r : Record) : Bool :=
  match r.kind, r.source, r.detail with
  | .lineRise, .line _, .line _ _ => true
  | .lineFall, .line _, .line _ _ => true
  | .watchMatch, .watch _, .watch _ _ _ => true
  | .watchTimeout, .watch _, .watch _ _ _ => true
  | .note, .host _, .note bytes => decide (1 ≤ bytes.length ∧ bytes.length ≤ 8)
  | .hostAttached, .host _, .session _ => true
  | .hostDetached, .host _, .session _ => true
  | .hostLost, .host _, .session _ => true
  | .hostEvicted, .host _, .evicted _ _ => true
  | .timeWrap, .hub, .wrap _ => true
  | .timeAdjusted, .hub, .adjusted _ _ => true
  | .outputSeized, .output _, .seized _ => true
  | .reflexFired, .output _, .reflex _ _ => true
  | _, _, _ => false

/-- Every record in use has the source and detail of its kind (R5). -/
abbrev State.RecordLaw (s : State) : Prop :=
  ∀ i : SlotId, ∀ r ∈ s.slots[i], r.formed = true

end Sys2Proof.Machine

/-! ### The words of the statements -/

namespace Sys2Proof

/-- A request frame (R175): the port it arrives at, its command code, tag and payload. -/
structure RequestFrame where
  host : HostId
  code : Byte
  tag : Byte
  payload : List Byte
  deriving DecidableEq, Repr

/-- The request frame whose taking a request row is, with the code that the command code table gives
its command (R188). -/
def Instr.frame? : Instr → Option RequestFrame
  | .attach h t p => some ⟨h, 0x01#8, t, p⟩
  | .detach h t p => some ⟨h, 0x02#8, t, p⟩
  | .evict h t p => some ⟨h, 0x03#8, t, p⟩
  | .restartHub h t p => some ⟨h, 0x04#8, t, p⟩
  | .hubStatus h t p => some ⟨h, 0x05#8, t, p⟩
  | .repeatResponse h t p => some ⟨h, 0x06#8, t, p⟩
  | .sendNote h t p => some ⟨h, 0x07#8, t, p⟩
  | .readTime h t p => some ⟨h, 0x10#8, t, p⟩
  | .adjustTime h t p => some ⟨h, 0x11#8, t, p⟩
  | .subscribeLines h t p => some ⟨h, 0x20#8, t, p⟩
  | .subscribeHub h t p => some ⟨h, 0x21#8, t, p⟩
  | .readSubscriptions h t p => some ⟨h, 0x22#8, t, p⟩
  | .readEvents h t p => some ⟨h, 0x23#8, t, p⟩
  | .ackEvents h t p => some ⟨h, 0x24#8, t, p⟩
  | .queueStatus h t p => some ⟨h, 0x25#8, t, p⟩
  | .lineConfigure h t p => some ⟨h, 0x30#8, t, p⟩
  | .lineArm h t p => some ⟨h, 0x31#8, t, p⟩
  | .lineDisarm h t p => some ⟨h, 0x32#8, t, p⟩
  | .lineRelease h t p => some ⟨h, 0x33#8, t, p⟩
  | .lineStatus h t p => some ⟨h, 0x34#8, t, p⟩
  | .watchInstall h t p => some ⟨h, 0x40#8, t, p⟩
  | .watchCancel h t p => some ⟨h, 0x41#8, t, p⟩
  | .watchRead h t p => some ⟨h, 0x42#8, t, p⟩
  | .outClaim h t p => some ⟨h, 0x50#8, t, p⟩
  | .outRelease h t p => some ⟨h, 0x51#8, t, p⟩
  | .outDrive h t p => some ⟨h, 0x52#8, t, p⟩
  | .outPulse h t p => some ⟨h, 0x53#8, t, p⟩
  | .outBind h t p => some ⟨h, 0x54#8, t, p⟩
  | .outUnbind h t p => some ⟨h, 0x55#8, t, p⟩
  | .outSeize h t p => some ⟨h, 0x56#8, t, p⟩
  | .outSafe h t p => some ⟨h, 0x57#8, t, p⟩
  | .outStatus h t p => some ⟨h, 0x58#8, t, p⟩
  | .setAttention h t p => some ⟨h, 0x60#8, t, p⟩
  | .clearAttention h t p => some ⟨h, 0x61#8, t, p⟩
  | .unknownCommand h code t p => some ⟨h, code, t, p⟩
  | .frameError _ _ => none
  | .frameRefusedForLength _ _ => none
  | .frameDiscarded _ => none
  | .responseSent _ => none
  | .powerOnReset _ _ _ => none
  | .externalReset _ _ _ => none
  | .tick _ => none
  | .timeWrap _ => none
  | .qualificationStart _ => none
  | .glitch _ => none
  | .qualifiedEdge _ => none
  | .checkExpiry _ => none
  | .pulseExpiry _ => none
  | .supervisionExpiry _ => none
  | .selectFalls _ => none
  | .selectRises _ => none
  | .byteCompletes _ _ => none

end Sys2Proof

namespace Sys2Proof.Machine

/-- The port of a request row has received all of its frame but the CRC byte (R174, R175). -/
def State.awaits (s : State) (i : Instr) : Bool :=
  match i.frame? with
  | none => false
  | some f => s.ports[f.host].awaitsCrc f.code f.tag f.payload

/-- The taking's restart of the caller's supervision timer, and nothing else (R144, R180). -/
def State.restarted (s : State) (h : HostId) : State :=
  let x := s.sessions[h]
  if x.state = .attached then
    { s with
      sessions := s.sessions.set h
        { x with
          timer :=
            if x.period = 0#8 then none
            else some { remaining := x.period.toNat * 10000, due := false } } }
  else s

/-- A response stored at its port and about to be sent: the port is ANSWERING, with every byte of the
response still to come, and has carried IDLE for the CRC byte (R174, R180, R184). -/
def State.answered (s : State) (h : HostId) (r : Response) : State :=
  { s with
    ports := s.ports.set h
      { s.ports[h] with
        stored := some r, receiver := .answering false r.frame 0, sdo := some idleByte } }

/-- The request row `i`, taken in state `s`, leaves the blocks behind the ports as in `u` and is
answered with this status and payload (R180, R184). -/
def Answers (i : Instr) (s u : State) (status : Status) (payload : List Byte) : Prop :=
  match i.frame? with
  | none => False
  | some f => exec i s = .next (u.answered f.host ⟨status, f.tag, s.hubTime, payload⟩)

/-- The request row `i`, taken in state `s`, is refused with this status: nothing changes but the timer
and the stored response, and the payload is empty (R182). -/
def Refuses (i : Instr) (s : State) (status : Status) : Prop :=
  match i.frame? with
  | none => False
  | some f => Answers i s (s.restarted f.host) status []

/-- What a holder removal of host `h` makes of a slot (R24). -/
def dropHolder (h : HostId) : Option Record → Option Record
  | none => none
  | some r =>
    if without r.holders h = 0#4 then none else some { r with holders := without r.holders h }

/-- What a showing makes of a slot (R19). -/
def shownSlot : Option Record → Option Record
  | none => none
  | some r => some { r with shown := true, foldTarget := none }

/-- The fold reference that is left of `ref` when the records of the slots where `gone` holds have been
shown, freed or given up (R72). -/
def keptRef (gone : SlotId → Bool) (ref : Option SlotId) : Option SlotId :=
  ref.filter fun i => !gone i

/-- What a posting of the causes `c` at an ATTACHED host makes of its attention state
(R162, R164). -/
def postedAttention (a : Attention) (c : CauseSet) : Attention :=
  { posted := a.posted ||| c
    enabled := a.enabled
    asserted := decide ((a.posted ||| c) &&& a.enabled ≠ 0#5) }

/-- What a miss makes of a queue (R39). -/
def missedQueue (q : Queue) : Queue :=
  { q with
    pendingMisses := if q.pendingMisses = 0xFFFF#16 then q.pendingMisses else q.pendingMisses + 1#16
    missedTotal := if q.missedTotal = 0xFFFF#16 then q.missedTotal else q.missedTotal + 1#16 }

/-- What the joining of an entry for the record in slot `i` makes of a queue (R38). -/
def joinedQueue (q : Queue) (i : SlotId) : Queue :=
  { q with
    entries := q.entries ++ [{ slot := i, missedBefore := q.pendingMisses }]
    pendingMisses := 0#16 }

/-- The causes a join posts: ENTRY, and THRESHOLD when the new length is the threshold (R38). -/
def joinCauses (q : Queue) : CauseSet :=
  if q.entries.length + 1 = q.threshold.toNat then 0x03#5 else 0x01#5

end Sys2Proof.Machine
end

