-- ==== Sys2Proof/Certificates/Slice0/Obligations.lean ====
section
/-!
DEFINITION. The statements for the provers. Each docstring names the rules of spec/ that the statement
formalises, and the log entry where it rests on a choice of the model's.
-/

open Sys2Proof Sys2Proof.Machine

/-! ### The queue of commands -/

/-- The model's own order of events (log 2): a step takes the command at the front of the queue and
carries it out with the queue's rest; with none waiting the block idles. -/
def Obligations.StepTakesTheFrontCommand : Prop :=
  (∀ s : State, s.pending = [] → step s = .next s) ∧
  (∀ (s : State) (c : Instr) (rest : List Instr), s.pending = c :: rest →
    step s = exec c { s with pending := rest })

/-- A command acts on everything but the queue, and reads nothing of it: whatever waits, it does the
same and leaves the queue as it was (the model's queue, log 2). -/
def Obligations.CommandsLeaveTheQueueAlone : Prop :=
  ∀ (c : Instr) (s : State) (q : List Instr),
    exec c { s with pending := q } =
      match exec c s with
      | .next t => .next { t with pending := q }
      | .fault r => .fault r
      | .refused r => .refused r

/-! ### Resets -/

/-- R28, R57, R78, R93, R113, R135, R139, R160, R171, R187: what POWER_ON_RESET and EXTERNAL_RESET
leave, whatever the state before. The pins at the end of the reset are the command's operands. That the
queue of commands and the counter of free values stay is the model's choice (logs 2 and 10), and so are
the fields sample and countOwed (logs 4 and 6). -/
def Obligations.ResetsInitialiseEveryBlock : Prop :=
  ∀ (straps : HostSet) (levels : LineSet) (selects : HostSet) (s : State), ∃ t : State,
    exec (.powerOnReset straps levels selects) s = .next t ∧
    exec (.externalReset straps levels selects) s = .next { t with resetCause := .external } ∧
    t.resetCause = .powerOn ∧
    (∀ i : SlotId, t.slots[i] = none) ∧ t.nextSeq = 0#16 ∧ t.exhaustion = 0#16 ∧
    (∀ h : HostId,
      t.queues[h] = { entries := [], pendingMisses := 0, missedTotal := 0, threshold := 1 } ∧
      t.subscriptions[h] = { rise := 0, fall := 0, session := false, time := false } ∧
      t.sessions[h] =
        { state := .detached, privilege := if holds straps h then .supervisor else .ordinary,
          period := 0, timer := none, number := 0, notice := true, loss := .noLoss } ∧
      t.attention[h] = { posted := 0, enabled := 0, asserted := true } ∧
      t.ports[h] =
        { selectLow := holds selects h, receiver := .deselected, sdo := none, stored := none,
          discarded := 0, frameErrors := 0 }) ∧
    (∀ l : LineId, t.lines[l] =
      { state := .unset, owner := none, sense := .both, filter := 0, policy := .each,
        settled := if holds levels l then .high else .low, qualification := none,
        lastRise := none, lastFall := none, edges := 0, glitches := 0,
        foldRise := none, foldFall := none }) ∧
    t.sample = levels ∧ t.hubTime = 0#32 ∧ t.epoch = 0#16 ∧ t.countOwed = false ∧
    (∀ w : WatchId, t.watches[w] =
      { state := .free, owner := none, tag := 0, mask := 0, pattern := 0, period := 0, confirm := 0,
        deadline := 0, mode := .once, notify := 0, checks := 0, consecutive := 0, ticks := 0 }) ∧
    (∀ o : OutputId, t.outputs[o] =
      { owner := none, drive := .low, safe := .low, pulse := none, binding := none }) ∧
    t.draws = s.draws ∧ t.pending = s.pending

/-- R157, R158: RESTART_HUB, its checks, its response and the soft restart whole. -/
def Obligations.RestartHubIsASoftRestart : Prop :=
  ∀ (h : HostId) (tag : Byte) (payload : List Byte) (s : State),
    s.awaits (.restartHub h tag payload) = true → s.isAttached h = true →
    if payload ≠ [] then Refuses (.restartHub h tag payload) s .badArg
    else if s.sessions[h].privilege = .ordinary then
      Refuses (.restartHub h tag payload) s .privilege
    else ∃ (u : State) (attached : HostSet),
      (∀ g : HostId, holds attached g = true ↔ s.sessions[g].state = .attached) ∧
      Answers (.restartHub h tag payload) s u .ok (attached.setWidth 8 :: halfBytes s.nextSeq) ∧
      u = { s with
        slots := u.slots, queues := u.queues, subscriptions := u.subscriptions, lines := u.lines
        watches := u.watches, outputs := u.outputs, sessions := u.sessions, resetCause := .soft
        attention := u.attention, ports := u.ports } ∧
      (∀ i : SlotId, u.slots[i] = none) ∧
      (∀ g : HostId,
        u.queues[g] = { entries := [], pendingMisses := 0, missedTotal := 0, threshold := 1 } ∧
        u.subscriptions[g] = { rise := 0, fall := 0, session := false, time := false } ∧
        u.sessions[g] = { s.sessions[g] with
          state := .detached, notice := true, loss := .noLoss, period := 0, timer := none } ∧
        u.attention[g] = { posted := 0, enabled := 0, asserted := true } ∧
        u.ports[g] = { s.ports[g] with stored := none }) ∧
      (∀ l : LineId, u.lines[l] = { s.lines[l] with
        state := .unset, owner := none, sense := .both, filter := 0, policy := .each
        foldRise := none, foldFall := none }) ∧
      (∀ w : WatchId, u.watches[w] = Watch.blank) ∧
      (∀ o : OutputId, u.outputs[o] = { s.outputs[o] with
        owner := none, drive := s.outputs[o].safe, pulse := none, binding := none })

/-! ### Taking a request -/

/-- R140: the session stage. ATTACH is refused to an ATTACHED caller; every command but ATTACH,
HUB_STATUS, READ_TIME and REPEAT_RESPONSE is refused to one that is not ATTACHED. -/
def Obligations.SessionStageRefuses : Prop :=
  ∀ (i : Instr) (f : RequestFrame) (s : State),
    i.wellFormed = true → i.frame? = some f → s.awaits i = true →
    (s.sessions[f.host].state = .attached → f.code = 0x01#8 → Refuses i s .alreadyAttached) ∧
    (f.code ∈ tableCodes → f.code ∉ [0x01#8, 0x05#8, 0x06#8, 0x10#8] →
      (s.sessions[f.host].state = .detached → Refuses i s .notAttached) ∧
      (s.sessions[f.host].state = .lost → Refuses i s .lost))

/-- R183: a code outside the command code table is answered UNKNOWN_COMMAND. -/
def Obligations.UnknownCommandIsAnswered : Prop :=
  ∀ (h : HostId) (code tag : Byte) (payload : List Byte) (s : State),
    code ∉ tableCodes → s.awaits (.unknownCommand h code tag payload) = true →
    Refuses (.unknownCommand h code tag payload) s .unknownCommand

/-- R185: REPEAT_RESPONSE sends the stored response again, or refuses under its own tag, and stores
nothing. -/
def Obligations.RepeatResponseSendsTheStoredResponse : Prop :=
  ∀ (h : HostId) (tag : Byte) (payload : List Byte) (s : State),
    s.awaits (.repeatResponse h tag payload) = true → ∃ r : Response,
      (payload ≠ [] → r = ⟨.badArg, tag, s.hubTime, []⟩) ∧
      (payload = [] → s.ports[h].stored = none → r = ⟨.noEntry, tag, s.hubTime, []⟩) ∧
      (payload = [] → ∀ stored : Response, s.ports[h].stored = some stored → r = stored) ∧
      exec (.repeatResponse h tag payload) s = .next { s.restarted h with
        ports := s.ports.set h
          { s.ports[h] with receiver := .answering false r.frame 0, sdo := some idleByte } }

/-- R175, R178, R180, R188: a request frame clocked in byte by byte, its CRC byte last, is taken as the
row with its command code, tag and payload (log 11). -/
def Obligations.WholeFrameIsTakenAsItsRow : Prop :=
  ∀ (i : Instr) (f : RequestFrame) (s : State) (rest : List Instr),
    i.wellFormed = true → i.frame? = some f → s.ports[f.host].selectLow = false →
    let bytes := requestBytes f.code f.tag f.payload
    Host.Core.run core (bytes.length + 2)
      { s with
        pending :=
          .selectFalls f.host :: (bytes ++ [crc8 bytes]).map (.byteCompletes f.host) ++ rest } =
    exec i { s with
      pending := rest
      ports := s.ports.set f.host
        { s.ports[f.host] with
          selectLow := true, receiver := .receiving bytes (crc8 bytes), sdo := some idleByte } }

/-- R176, R179: a frame with a length byte above 200 is skipped, one with a wrong CRC is answered
FRAME_ERROR; each counts one frame error, takes nothing and stores nothing. The byte that ends it has
the same effect as the row (log 11). -/
def Obligations.BadFramesAreCountedAndNotTaken : Prop :=
  (∀ (h : HostId) (code tag length running : Byte) (s : State),
    s.ports[h].receiver = .receiving [code, tag] running → 200 < length.toNat → ∃ p : Port,
      p = { s.ports[h] with
        receiver := .skipping, sdo := some 0xFF#8
        frameErrors := if s.ports[h].frameErrors = 0xFF#8 then 0xFF#8
          else s.ports[h].frameErrors + 1#8 } ∧
      exec (.frameRefusedForLength h length) s = .next { s with ports := s.ports.set h p } ∧
      exec (.byteCompletes h length) s = .next { s with ports := s.ports.set h p } ∧
      (∀ byte : Byte, exec (.byteCompletes h byte) { s with ports := s.ports.set h p } =
        .next { s with ports := s.ports.set h p }) ∧
      exec (.selectRises h) { s with ports := s.ports.set h p } = .next { s with
        ports := s.ports.set h { p with selectLow := false, receiver := .deselected, sdo := none } }) ∧
  (∀ (h : HostId) (code tag : Byte) (payload : List Byte) (running crc : Byte) (s : State),
    payload.length ≤ 200 → s.ports[h].receiver = .receiving (requestBytes code tag payload) running → crc ≠ running →
    ∃ t : State,
      t = { s with ports := s.ports.set h { s.ports[h] with
        receiver :=
          .answering false (Response.frame ⟨.frameError, tag, s.hubTime, []⟩) 0
        sdo := some 0xFF#8
        frameErrors := if s.ports[h].frameErrors = 0xFF#8 then 0xFF#8
          else s.ports[h].frameErrors + 1#8 } } ∧
      exec (.frameError h crc) s = .next t ∧ exec (.byteCompletes h crc) s = .next t)

/-- R177, R187 and the rows of R174: what the edges of select do. A rise in RECEIVING after a byte
discards the frame, by either row (log 13); every other rise counts nothing. A byte on a DESELECTED port
is not read and moves nothing. -/
def Obligations.SelectEdgesMoveTheReceiver : Prop :=
  ∀ (h : HostId) (s : State),
    (s.ports[h].selectLow = false → exec (.selectFalls h) s = .next { s with
      ports := s.ports.set h
        { s.ports[h] with selectLow := true, receiver := .receiving [] 0#8 } }) ∧
    (∀ (byte running : Byte) (bytes : List Byte),
      s.ports[h].receiver = .receiving (byte :: bytes) running → ∃ t : State,
        t = { s with ports := s.ports.set h { s.ports[h] with
          selectLow := false, receiver := .deselected, sdo := none
          discarded := if s.ports[h].discarded = 0xFF#8 then 0xFF#8
            else s.ports[h].discarded + 1#8 } } ∧
        exec (.frameDiscarded h) s = .next t ∧ exec (.selectRises h) s = .next t) ∧
    ((∀ (byte running : Byte) (bytes : List Byte),
        s.ports[h].receiver ≠ .receiving (byte :: bytes) running) →
      exec (.selectRises h) s = .next { s with ports := s.ports.set h { s.ports[h] with
        selectLow := false, receiver := .deselected, sdo := none } }) ∧
    (s.ports[h].receiver = .deselected → ∀ byte : Byte, exec (.byteCompletes h byte) s = .next s)

/-- R174, R181: in ANSWERING, a byte clocked before START carries WAIT and leaves the response to come,
or carries START; START for certain once more than four ticks have passed (log 9; log 19 for FRAME_ERROR).
From START on, the bytes clocked carry the response in order. RESPONSE_SENT ends the response, the bytes
that none has clocked with it (log 12); then the receiver is FINISHED and carries IDLE. R188: those bytes
are START, the status code of the table, the tag, the taken-at time, the length, the payload and the CRC
over all but START. -/
def Obligations.ResponseIsClockedOutInOrder : Prop :=
  (∀ r : Response,
    let covered : List Byte :=
      [(match r.status with
          | .ok => 0x00#8
          | .notAttached => 0x01#8
          | .lost => 0x02#8
          | .alreadyAttached => 0x03#8
          | .privilege => 0x04#8
          | .notOwner => 0x05#8
          | .held => 0x06#8
          | .badState => 0x07#8
          | .badArg => 0x08#8
          | .noEntry => 0x09#8
          | .mismatch => 0x0A#8
          | .poolFull => 0x0B#8
          | .tableFull => 0x0C#8
          | .busy => 0x0D#8
          | .noTarget => 0x0E#8
          | .unknownCommand => 0x0F#8
          | .frameError => 0x10#8),
        r.tag, r.takenAt.extractLsb' 24 8, r.takenAt.extractLsb' 16 8, r.takenAt.extractLsb' 8 8,
        r.takenAt.extractLsb' 0 8, BitVec.ofNat 8 r.payload.length] ++ r.payload
    r.frame = 0x5A#8 :: (covered ++ [crc8 covered])) ∧
  (∀ (h : HostId) (s : State) (byte first : Byte) (rest : List Byte) (age : Nat),
    s.ports[h].receiver = .answering false (first :: rest) age →
    let waits := { s.ports[h] with sdo := some 0x00#8 }
    let starts := { s.ports[h] with receiver := .answering true rest age, sdo := some first }
    (4 < age → exec (.byteCompletes h byte) s = .next { s with ports := s.ports.set h starts }) ∧
    (age ≤ 4 →
      exec (.byteCompletes h byte) s =
        .next { s with ports := s.ports.set h waits, draws := s.draws + 1 } ∨
      exec (.byteCompletes h byte) s =
        .next { s with ports := s.ports.set h starts, draws := s.draws + 1 })) ∧
  (∀ (h : HostId) (s : State) (clocked sent rest : List Byte) (age : Nat),
    s.ports[h].receiver = .answering true (sent ++ rest) age →
    clocked.length = sent.length →
    Host.Core.run core clocked.length { s with pending := clocked.map (.byteCompletes h) } =
      .next { s with
        pending := []
        ports := s.ports.set h { s.ports[h] with
          receiver := .answering true rest age
          sdo := match sent.getLast? with
            | none => s.ports[h].sdo
            | some last => some last } }) ∧
  (∀ (h : HostId) (s : State) (ready : Bool) (age : Nat),
    (s.ports[h].receiver = .answering ready [] age →
      exec (.responseSent h) s = .next { s with
        ports := s.ports.set h { s.ports[h] with receiver := .finished } }) ∧
    ∀ (left : List Byte) (last : Byte), s.ports[h].receiver = .answering ready (left ++ [last]) age →
      exec (.responseSent h) s = .next { s with
        ports := s.ports.set h { s.ports[h] with receiver := .finished, sdo := some last } }) ∧
  (∀ (h : HostId) (s : State) (byte : Byte),
    s.ports[h].receiver = .finished ∨ s.ports[h].receiver = .skipping →
    exec (.byteCompletes h byte) s = .next { s with
      ports := s.ports.set h { s.ports[h] with sdo := some 0xFF#8 } })

/-- R178: the CRC of a frame. A frame followed by its own CRC has CRC 0, a change of one byte always
changes the CRC, and the CRC of the nine ASCII digits 1 to 9 is the manual's. -/
def Obligations.CrcDetectsAnyChangedByte : Prop :=
  (∀ bytes : List Byte, crc8 (bytes ++ [crc8 bytes]) = 0#8) ∧
  (∀ (before after : List Byte) (b b' : Byte), b ≠ b' →
    crc8 (before ++ b :: after) ≠ crc8 (before ++ b' :: after)) ∧
  crc8 [0x31#8, 0x32#8, 0x33#8, 0x34#8, 0x35#8, 0x36#8, 0x37#8, 0x38#8, 0x39#8] = 0xF4#8

/-- The model's own refusals (logs 3 and 4): a command that stands for an event that cannot come in
this state is refused by name. Among them: no edge qualifies before its F ticks (R62), no qualification
starts while one is in progress (R60), and none ends as a glitch at the tick of its start (R61). -/
def Obligations.EventsThatCannotComeAreRefused : Prop :=
  (∀ (i : Instr) (f : RequestFrame) (s : State),
    i.frame? = some f → s.awaits i = false → exec i s = .refused .frameNotReceived) ∧
  (∀ (h : HostId) (s : State) (byte : Byte),
    (s.ports[h].selectLow = true → exec (.selectFalls h) s = .refused .cannotReachPort) ∧
    ((∀ (bytes : List Byte) (running : Byte), s.ports[h].receiver ≠ .receiving bytes running) →
      exec (.frameError h byte) s = .refused .frameNotReceived ∧
      exec (.frameRefusedForLength h byte) s = .refused .cannotReachPort ∧
      exec (.frameDiscarded h) s = .refused .cannotReachPort) ∧
    (∀ (bytes : List Byte) (running : Byte), s.ports[h].receiver = .receiving bytes running →
      (byte = running ∨ bytes.length < 3 ∨ (∃ length ∈ bytes[2]?, bytes.length < 3 + length.toNat) →
        exec (.frameError h byte) s = .refused .frameNotReceived) ∧
      (bytes.length ≠ 2 ∨ byte.toNat ≤ 200 →
        exec (.frameRefusedForLength h byte) s = .refused .cannotReachPort) ∧
      (bytes = [] → exec (.frameDiscarded h) s = .refused .cannotReachPort)) ∧
    ((∀ (ready : Bool) (rest : List Byte) (age : Nat),
        s.ports[h].receiver ≠ .answering ready rest age) →
      exec (.responseSent h) s = .refused .cannotReachPort)) ∧
  (∀ (h : HostId) (code tag : Byte) (payload : List Byte) (s : State), code ∈ tableCodes →
    exec (.unknownCommand h code tag payload) s = .refused .frameNotReceived) ∧
  (∀ (levels : LineSet) (s : State),
    (s.eventsDue = true ∨ s.countOwed = true →
      exec (.tick (.whole levels)) s = .refused .eventsDue ∧
      exec (.tick (.handedOut levels)) s = .refused .eventsDue) ∧
    (s.countOwed = false ∨ s.hubTime = 0xFFFFFFFF#32 →
      exec (.tick .counted) s = .refused .notDue) ∧
    (s.hubTime = 0xFFFFFFFF#32 → s.countOwed = false → s.eventsDue = true →
      exec (.timeWrap levels) s = .refused .eventsDue) ∧
    (s.hubTime ≠ 0xFFFFFFFF#32 → exec (.timeWrap levels) s = .refused .notDue)) ∧
  (∀ (l : LineId) (s : State),
    (holds s.sample l = true ↔ s.lines[l].settled = .high) →
    exec (.qualificationStart l) s = .refused .notDue ∧
    exec (.qualifiedEdge l) s = .refused .notDue) ∧
  (∀ (l : LineId) (s : State),
    (holds s.sample l = true ↔ s.lines[l].settled = .low) →
    exec (.glitch l) s = .refused .notDue) ∧
  (∀ (l : LineId) (s : State), s.lines[l].qualification = none →
    exec (.glitch l) s = .refused .notDue ∧
    (s.lines[l].filter ≠ 0#12 → exec (.qualifiedEdge l) s = .refused .notDue)) ∧
  (∀ (l : LineId) (s : State) (q : Qualification), s.lines[l].qualification = some q →
    exec (.qualificationStart l) s = .refused .notDue ∧
    (q.elapsed = 0 → exec (.glitch l) s = .refused .notDue) ∧
    (q.elapsed < q.filter.toNat → exec (.qualifiedEdge l) s = .refused .notDue)) ∧
  (∀ (w : WatchId) (s : State), s.watches[w].state = .free ∨ s.watches[w].ticks ≠ 0 →
    exec (.checkExpiry w) s = .refused .notDue) ∧
  (∀ (o : OutputId) (s : State), (∀ p ∈ s.outputs[o].pulse, p.count.due = false) →
    exec (.pulseExpiry o) s = .refused .notDue) ∧
  (∀ (h : HostId) (s : State),
    s.sessions[h].state ≠ .attached ∨ (∀ c ∈ s.sessions[h].timer, c.due = false) →
    exec (.supervisionExpiry h) s = .refused .notDue)

/-! ### Sessions -/

/-- R142: ATTACH. -/
def Obligations.AttachOpensASession : Prop :=
  ∀ (h : HostId) (tag : Byte) (payload : List Byte) (s : State),
    s.awaits (.attach h tag payload) = true →
    if s.sessions[h].state = .attached then Refuses (.attach h tag payload) s .alreadyAttached
    else
      match payload with
      | [period] =>
        let number := s.sessions[h].number + 1#8
        let begun : State := { s with
          sessions := s.sessions.set h { s.sessions[h] with
            state := .attached, number := number, notice := false, loss := .noLoss, period := period
            timer := if period = 0#8 then none
              else some { remaining := period.toNat * 10000, due := false } }
          attention := s.attention.set h { posted := 0, enabled := 0, asserted := false } }
        Answers (.attach h tag payload) s
          (begun.offer ⟨.hostAttached, .host h, s.hubTime, .session number, 0⟩).1 .ok
          [number, if s.sessions[h].privilege = .supervisor then 1#8 else 0#8]
      | _ => Refuses (.attach h tag payload) s .badArg

/-- R145, R147: DETACH, and SUPERVISION_EXPIRY when the timer of an ATTACHED host has come to its end
(log 7). The session end itself is SessionEndGivesEverythingBack. -/
def Obligations.DetachAndTimeoutCloseTheSession : Prop :=
  (∀ (h : HostId) (tag : Byte) (payload : List Byte) (s : State),
    s.awaits (.detach h tag payload) = true → s.isAttached h = true →
    if payload ≠ [] then Refuses (.detach h tag payload) s .badArg
    else Answers (.detach h tag payload) s ((s.restarted h).endSession h .detach) .ok
      [s.sessions[h].number]) ∧
  (∀ (h : HostId) (s : State) (remaining : Nat), s.sessions[h].state = .attached →
    s.sessions[h].timer = some { remaining := remaining, due := true } →
    exec (.supervisionExpiry h) s = .next (s.endSession h .timeout))

/-- R148, R149: EVICT. The session end itself is SessionEndGivesEverythingBack. -/
def Obligations.EvictEndsTheTargetsSession : Prop :=
  ∀ (h : HostId) (tag : Byte) (payload : List Byte) (s : State),
    s.awaits (.evict h tag payload) = true → s.isAttached h = true →
    match payload with
    | [b] =>
      if hb : b.toNat < 4 then
        let target : HostId := ⟨b.toNat, hb⟩
        if target = h then Refuses (.evict h tag payload) s .badArg
        else if s.sessions[h].privilege = .ordinary then Refuses (.evict h tag payload) s .privilege
        else if s.sessions[target].privilege = .supervisor then
          Refuses (.evict h tag payload) s .privilege
        else if s.sessions[target].state ≠ .attached then Refuses (.evict h tag payload) s .badState
        else Answers (.evict h tag payload) s ((s.restarted h).endSession target (.evict h)) .ok
          [s.sessions[target].number]
      else Refuses (.evict h tag payload) s .badArg
    | _ => Refuses (.evict h tag payload) s .badArg

/-- R151 with R54, R55, R77, R111, R112, R134 and R170: what a session end of host h gives back, before
the session record is offered, in every state that keeps the laws of the pool and the queues. -/
def Obligations.SessionEndGivesEverythingBack : Prop :=
  ∀ (s : State) (h : HostId) (c : EndCause), s.HolderLaw → s.QueueLaw → s.FoldLaw → ∃ t : State,
    s.endSession h c = (t.offer
      (match c with
        | .detach => ⟨.hostDetached, .host h, s.hubTime, .session s.sessions[h].number, 0⟩
        | .timeout => ⟨.hostLost, .host h, s.hubTime, .session s.sessions[h].number, 0⟩
        | .evict by_ => ⟨.hostEvicted, .host h, s.hubTime, .evicted s.sessions[h].number by_, 0⟩)).1 ∧
    t = { s with
      slots := t.slots, queues := t.queues, subscriptions := t.subscriptions, lines := t.lines
      watches := t.watches, outputs := t.outputs, sessions := t.sessions, attention := t.attention } ∧
    t.sessions[h] = { s.sessions[h] with
      state := match c with | .detach => .detached | _ => .lost
      notice := match c with | .detach => s.sessions[h].notice | _ => true
      loss := match c with
        | .detach => s.sessions[h].loss
        | .timeout => .timeout
        | .evict _ => .evicted
      period := 0, timer := none } ∧
    t.queues[h] = { entries := [], pendingMisses := 0, missedTotal := 0, threshold := 1 } ∧
    t.subscriptions[h] = { rise := 0, fall := 0, session := false, time := false } ∧
    t.attention[h] = { posted := 0, enabled := 0, asserted := t.sessions[h].notice } ∧
    (∀ g : HostId, g ≠ h → t.sessions[g] = s.sessions[g] ∧ t.queues[g] = s.queues[g] ∧
      t.subscriptions[g] = s.subscriptions[g] ∧ t.attention[g] = s.attention[g]) ∧
    (∀ i : SlotId, t.slots[i] = dropHolder h s.slots[i]) ∧
    (∀ l : LineId, t.lines[l] = { s.lines[l] with
      owner := if s.lines[l].owner = some h then none else s.lines[l].owner
      foldRise := keptRef (fun i => t.slots[i].isNone) s.lines[l].foldRise
      foldFall := keptRef (fun i => t.slots[i].isNone) s.lines[l].foldFall }) ∧
    (∀ w : WatchId, t.watches[w] = if s.watches[w].owner = some h then Watch.blank
      else { s.watches[w] with notify := without s.watches[w].notify h }) ∧
    (∀ o : OutputId, t.outputs[o] = if s.outputs[o].owner = some h then { s.outputs[o] with
      owner := none, drive := s.outputs[o].safe, pulse := none, binding := none }
      else s.outputs[o])

/-- R155: SEND_NOTE. -/
def Obligations.SendNoteOffersANote : Prop :=
  ∀ (h : HostId) (tag : Byte) (payload : List Byte) (s : State),
    s.awaits (.sendNote h tag payload) = true → s.isAttached h = true →
    match payload with
    | [] => Refuses (.sendNote h tag payload) s .badArg
    | targets :: note =>
      if note.length = 0 ∨ 8 < note.length then Refuses (.sendNote h tag payload) s .badArg
      else if targets = 0#8 ∨ targets &&& 0xF0#8 ≠ 0#8 then
        Refuses (.sendNote h tag payload) s .badArg
      else ∃ effective : HostSet,
        (∀ g : HostId, holds effective g = true ↔
          targets.getLsbD g.val = true ∧ s.sessions[g].state = .attached) ∧
        if effective = 0#4 then Refuses (.sendNote h tag payload) s .noTarget
        else
          let taken :=
            (s.restarted h).offer ⟨.note, .host h, s.hubTime, .note note, effective⟩
          match taken.2 with
          | .unrouted => False
          | .noSlot => Refuses (.sendNote h tag payload) s .poolFull
          | .allMissed missed =>
            Answers (.sendNote h tag payload) s taken.1 .ok [0#8, 0#8, 0#8, 0#8, missed.setWidth 8]
          | .created _ recipients missed =>
            Answers (.sendNote h tag payload) s taken.1 .ok
              (1#8 :: halfBytes s.nextSeq ++ [recipients.setWidth 8, missed.setWidth 8])

/-- R87, R154: READ_TIME and HUB_STATUS, which every caller may send and which change nothing. -/
def Obligations.ReadTimeAndHubStatusReport : Prop :=
  ∀ (h : HostId) (tag : Byte) (payload : List Byte) (s : State),
    (s.awaits (.readTime h tag payload) = true →
      if payload ≠ [] then Refuses (.readTime h tag payload) s .badArg
      else Answers (.readTime h tag payload) s (s.restarted h) .ok
        (wordBytes s.hubTime ++ halfBytes s.epoch)) ∧
    (s.awaits (.hubStatus h tag payload) = true →
      if payload ≠ [] then Refuses (.hubStatus h tag payload) s .badArg
      else
        let code : SessionState → BitVec 2 := fun
          | .detached => 0#2
          | .attached => 1#2
          | .lost => 2#2
        ∃ states : Byte,
          (∀ g : HostId, states.extractLsb' (2 * g.val) 2 = code s.sessions[g].state) ∧
          Answers (.hubStatus h tag payload) s (s.restarted h) .ok
            ([match s.resetCause with | .powerOn => 0#8 | .external => 1#8 | .soft => 2#8,
              (code s.sessions[h].state).setWidth 8,
              if s.sessions[h].privilege = .supervisor then 1#8 else 0#8,
              if s.sessions[h].notice then 1#8 else 0#8,
              match s.sessions[h].loss with | .noLoss => 0#8 | .timeout => 1#8 | .evicted => 2#8,
              s.sessions[h].number, s.sessions[h].period, states,
              numberByte ((List.finRange 64).countP fun i : SlotId => s.slots[i].isNone)]
            ++ halfBytes s.exhaustion ++ halfBytes s.nextSeq ++ halfBytes s.epoch
            ++ [s.ports[h].discarded, s.ports[h].frameErrors]))

/-! ### The Time Base -/

/-- R88, R89: ADJUST_TIME. -/
def Obligations.AdjustTimeMovesHubTime : Prop :=
  ∀ (h : HostId) (tag : Byte) (payload : List Byte) (s : State),
    s.awaits (.adjustTime h tag payload) = true → s.isAttached h = true →
    match payload with
    | [b3, b2, b1, b0] =>
      let offset : HubTime := b3 ++ b2 ++ b1 ++ b0
      if offset = 0#32 then Refuses (.adjustTime h tag payload) s .badArg
      else if s.sessions[h].privilege = .ordinary then
        Refuses (.adjustTime h tag payload) s .privilege
      else
        let moved : State := { s.restarted h with hubTime := s.hubTime + offset }
        let taken := moved.offer
          ⟨.timeAdjusted, .hub, s.hubTime + offset, .adjusted offset h, 0⟩
        Answers (.adjustTime h tag payload) s taken.1 .ok
          (wordBytes (s.hubTime + offset) ++ halfBytes s.epoch ++
            match taken.2 with
            | .created _ _ _ => 1#8 :: halfBytes s.nextSeq
            | _ => [0#8, 0#8, 0#8])
    | _ => Refuses (.adjustTime h tag payload) s .badArg

/-- R83, R91 with R99, R122 and R144: a TICK counts hub time and reaches every measure of elapsed time,
once nothing of the tick before is left to be taken (log 4). R90: its count may come whole with it or as
an event of its own, after other events that read hub time (log 6). At the largest hub time the count is
left to TIME_WRAP. The operand is the sample of the raw levels (R60). -/
def Obligations.TickCountsEveryMeasure : Prop :=
  (∀ (levels : LineSet) (s : State), s.eventsDue = false → s.countOwed = false → ∃ t : State,
    exec (.tick (.handedOut levels)) s = .next t ∧
    exec (.tick (.whole levels)) s = .next (if s.hubTime = 0xFFFFFFFF#32 then t
      else { t with hubTime := s.hubTime + 1#32, countOwed := false }) ∧
    t = { s with
      countOwed := true, sample := levels, lines := t.lines, watches := t.watches
      outputs := t.outputs, sessions := t.sessions, ports := t.ports } ∧
    (∀ l : LineId, t.lines[l] = { s.lines[l] with
      qualification := s.lines[l].qualification.map fun q => { q with elapsed := q.elapsed + 1 } }) ∧
    (∀ w : WatchId, t.watches[w] = { s.watches[w] with
      ticks := if s.watches[w].state = .free then s.watches[w].ticks else s.watches[w].ticks - 1 }) ∧
    (∀ o : OutputId, t.outputs[o] = { s.outputs[o] with
      pulse := s.outputs[o].pulse.map fun p => { p with count := p.count.tick } }) ∧
    (∀ h : HostId,
      t.sessions[h] = { s.sessions[h] with timer := s.sessions[h].timer.map Countdown.tick } ∧
      t.ports[h] = { s.ports[h] with
        receiver := match s.ports[h].receiver with
          | .answering ready rest age => .answering ready rest (age + 1)
          | r => r })) ∧
  (∀ s : State, s.countOwed = true → s.hubTime ≠ 0xFFFFFFFF#32 →
    exec (.tick .counted) s = .next { s with hubTime := s.hubTime + 1#32, countOwed := false })

/-- R122, R144, R91: a count begun with n ticks shows n − k of them after k ticks and falls due at the
n-th, not before (how the model marks 'reaches 0': log 7). -/
def Obligations.CountdownsRunTheirFullLength : Prop :=
  ∀ n k : Nat,
    (k < n → Countdown.tick^[k] (Countdown.start n) = { remaining := n - k, due := false }) ∧
    (1 ≤ n → (Countdown.tick^[n] (Countdown.start n)).due = true)

/-- R84: the wrap, whole. Where TICK has handed the tick out, TIME_WRAP makes its count; otherwise it
hands the tick out as well, its operand the samples (log 6). -/
def Obligations.TimeWrapCountsTheEpoch : Prop :=
  ∀ (levels : LineSet) (s : State), s.hubTime = 0xFFFFFFFF#32 →
    let wrapped : State → State := fun u =>
      ({ u with hubTime := 0#32, epoch := s.epoch + 1#16, countOwed := false }.offer
        ⟨.timeWrap, .hub, 0#32, .wrap (s.epoch + 1#16), 0⟩).1
    (s.countOwed = true → exec (.timeWrap levels) s = .next (wrapped s)) ∧
    (s.countOwed = false → s.eventsDue = false → ∃ u : State,
      exec (.tick (.whole levels)) s = .next u ∧ exec (.timeWrap levels) s = .next (wrapped u))

/-- R89, R139: the epoch changes only at TIME_WRAP, by one, and at a power-on or external reset; hub
time changes besides only at TICK and where an ADJUST_TIME is taken, by its row or by its CRC byte
(log 11); no other command changes a port's privilege. -/
def Obligations.OnlyCountingMovesTheEpoch : Prop :=
  ∀ (c : Instr) (s t : State), exec c s = .next t →
    (∀ straps levels selects, c ≠ .powerOnReset straps levels selects) →
    (∀ straps levels selects, c ≠ .externalReset straps levels selects) →
    (∀ h : HostId, t.sessions[h].privilege = s.sessions[h].privilege) ∧
    ((∀ levels, c ≠ .timeWrap levels) → t.epoch = s.epoch) ∧
    ((∃ levels, c = .timeWrap levels) → t.epoch = s.epoch + 1#16 ∧ t.hubTime = 0#32) ∧
    (t.hubTime ≠ s.hubTime → (∃ event, c = .tick event) ∨ (∃ levels, c = .timeWrap levels) ∨
      (∃ h tag payload, c = .adjustTime h tag payload) ∨
      (∃ h byte crc tag length offset, c = .byteCompletes h byte ∧
        s.ports[h].receiver = .receiving (0x11#8 :: tag :: length :: offset) crc))

/-! ### Subscriptions -/

/-- R32, R33, R34: SUBSCRIBE_LINES, SUBSCRIBE_HUB and READ_SUBSCRIPTIONS. -/
def Obligations.SubscriptionsAreReplacedAndRead : Prop :=
  ∀ (h : HostId) (tag : Byte) (payload : List Byte) (s : State), s.isAttached h = true →
    (s.awaits (.subscribeLines h tag payload) = true →
      match payload with
      | [hi, lo, kinds] =>
        let named : LineSet := hi ++ lo
        if named = 0#16 ∨ kinds &&& 0xFC#8 ≠ 0#8 then
          Refuses (.subscribeLines h tag payload) s .badArg
        else ∃ x : Subscription,
          (∀ l : LineId,
            holds x.rise l = (if holds named l then kinds.getLsbD 0
              else holds s.subscriptions[h].rise l) ∧
            holds x.fall l = (if holds named l then kinds.getLsbD 1
              else holds s.subscriptions[h].fall l)) ∧
          x.session = s.subscriptions[h].session ∧ x.time = s.subscriptions[h].time ∧
          Answers (.subscribeLines h tag payload) s
            { s.restarted h with subscriptions := s.subscriptions.set h x } .ok
            (halfBytes x.rise ++ halfBytes x.fall)
      | _ => Refuses (.subscribeLines h tag payload) s .badArg) ∧
    (s.awaits (.subscribeHub h tag payload) = true →
      match payload with
      | [classes] =>
        if classes &&& 0xFC#8 ≠ 0#8 then Refuses (.subscribeHub h tag payload) s .badArg
        else Answers (.subscribeHub h tag payload) s
          { s.restarted h with subscriptions := s.subscriptions.set h { s.subscriptions[h] with
            session := classes.getLsbD 0, time := classes.getLsbD 1 } } .ok [classes]
      | _ => Refuses (.subscribeHub h tag payload) s .badArg) ∧
    (s.awaits (.readSubscriptions h tag payload) = true →
      if payload ≠ [] then Refuses (.readSubscriptions h tag payload) s .badArg
      else Answers (.readSubscriptions h tag payload) s (s.restarted h) .ok
        (halfBytes s.subscriptions[h].rise ++ halfBytes s.subscriptions[h].fall ++
          [(if s.subscriptions[h].session then 1#8 else 0#8) |||
            (if s.subscriptions[h].time then 2#8 else 0#8)]))

/-! ### The host queues -/

/-- R43, R44, R45 with R19: READ_EVENTS returns the entries of its window as their records stand,
shows those records and changes no queue. -/
def Obligations.ReadEventsReturnsAndShows : Prop :=
  ∀ (h : HostId) (tag : Byte) (payload : List Byte) (s : State),
    s.awaits (.readEvents h tag payload) = true → s.isAttached h = true →
    s.HolderLaw → s.FoldLaw →
    match payload with
    | [offset, count] =>
      if 31 < offset.toNat ∨ count = 0#8 ∨ 8 < count.toNat then
        Refuses (.readEvents h tag payload) s .badArg
      else
        let entries := s.queues[h].entries
        let returned := (entries.drop offset.toNat).take count.toNat
        let read : SlotId → Bool := fun i => returned.any fun e => e.slot == i
        ∃ (u : State) (records : List Record),
          records.map some = returned.map (fun e => s.slots[e.slot]) ∧
          Answers (.readEvents h tag payload) s u .ok
            (numberByte entries.length ::
              (List.zipWith (fun e r => entryBytes r e.missedBefore) returned records).flatten) ∧
          u = { s.restarted h with slots := u.slots, lines := u.lines } ∧
          (∀ i : SlotId, u.slots[i] = if read i then shownSlot s.slots[i] else s.slots[i]) ∧
          (∀ l : LineId, u.lines[l] = { s.lines[l] with
            foldRise := keptRef read s.lines[l].foldRise
            foldFall := keptRef read s.lines[l].foldFall })
    | _ => Refuses (.readEvents h tag payload) s .badArg

/-- R189: an event entry has the manual's layout, kind codes, source codes and detail fields, 11 bytes and
the detail, 0 to 8; and it encodes its record whole: two entries with the same bytes, whatever follows
them, show the same sequence, kind, source, timestamp, detail and missed-before count. -/
def Obligations.EventEntriesDecodeUniquely : Prop :=
  (∀ (r : Record) (missed : Half), r.formed = true → ∃ detail : List Byte, detail.length ≤ 8 ∧
    detail = (match r.detail with
      | .line snapshot count =>
        [snapshot.extractLsb' 8 8, snapshot.extractLsb' 0 8] ++
          match count with
          | none => []
          | some n => [n.extractLsb' 8 8, n.extractLsb' 0 8]
      | .watch tag sample checks =>
        [tag, sample.extractLsb' 8 8, sample.extractLsb' 0 8, checks.extractLsb' 8 8,
          checks.extractLsb' 0 8]
      | .note bytes => bytes
      | .session number => [number]
      | .evicted number by_ => [number, BitVec.ofNat 8 by_.val]
      | .wrap epoch => [epoch.extractLsb' 8 8, epoch.extractLsb' 0 8]
      | .adjusted offset by_ =>
        [offset.extractLsb' 24 8, offset.extractLsb' 16 8, offset.extractLsb' 8 8,
          offset.extractLsb' 0 8, BitVec.ofNat 8 by_.val]
      | .seized by_ => [BitVec.ofNat 8 by_.val]
      | .reflex line level =>
        [BitVec.ofNat 8 line.val, match level with | .low => 0#8 | .high => 1#8]) ∧
    entryBytes r missed =
      [r.seq.extractLsb' 8 8, r.seq.extractLsb' 0 8,
        (match r.kind with
          | .lineRise => 0x01#8
          | .lineFall => 0x02#8
          | .watchMatch => 0x03#8
          | .watchTimeout => 0x04#8
          | .note => 0x05#8
          | .hostAttached => 0x06#8
          | .hostDetached => 0x07#8
          | .hostLost => 0x08#8
          | .hostEvicted => 0x09#8
          | .timeWrap => 0x0A#8
          | .timeAdjusted => 0x0B#8
          | .outputSeized => 0x0C#8
          | .reflexFired => 0x0D#8),
        (match r.source with
          | .line l => BitVec.ofNat 8 l.val
          | .watch w => BitVec.ofNat 8 (0x10 + w.val)
          | .host h => BitVec.ofNat 8 (0x20 + h.val)
          | .hub => 0x30#8
          | .output o => BitVec.ofNat 8 (0x40 + o.val)),
        r.timestamp.extractLsb' 24 8, r.timestamp.extractLsb' 16 8, r.timestamp.extractLsb' 8 8,
        r.timestamp.extractLsb' 0 8, missed.extractLsb' 8 8, missed.extractLsb' 0 8,
        BitVec.ofNat 8 detail.length] ++ detail) ∧
  (∀ (r r' : Record) (missed missed' : Half) (rest rest' : List Byte),
    r.formed = true → r'.formed = true →
    entryBytes r missed ++ rest = entryBytes r' missed' ++ rest' →
    r.seq = r'.seq ∧ r.kind = r'.kind ∧ r.source = r'.source ∧ r.timestamp = r'.timestamp ∧
    r.detail = r'.detail ∧ missed = missed' ∧ rest = rest')

/-- R47, R48 with R24: ACK_EVENTS removes the count oldest entries once the sequence of the last of them
agrees, and frees every record that loses its last holder. -/
def Obligations.AckEventsRemovesTheOldest : Prop :=
  ∀ (h : HostId) (tag : Byte) (payload : List Byte) (s : State),
    s.awaits (.ackEvents h tag payload) = true → s.isAttached h = true →
    s.HolderLaw → s.QueueLaw → s.FoldLaw →
    match payload with
    | [count, hi, lo] =>
      let entries := s.queues[h].entries
      if count = 0#8 ∨ 32 < count.toNat then Refuses (.ackEvents h tag payload) s .badArg
      else if entries.length < count.toNat then
        Answers (.ackEvents h tag payload) s (s.restarted h) .noEntry [numberByte entries.length]
      else ∃ (last : Entry) (r : Record),
        entries[count.toNat - 1]? = some last ∧ s.slots[last.slot] = some r ∧
        if r.seq ≠ hi ++ lo then
          Answers (.ackEvents h tag payload) s (s.restarted h) .mismatch
            (numberByte entries.length :: halfBytes r.seq)
        else
          let gone : SlotId → Bool := fun i => (entries.take count.toNat).any fun e => e.slot == i
          ∃ u : State,
            Answers (.ackEvents h tag payload) s u .ok
              [numberByte (entries.length - count.toNat)] ∧
            u = { s.restarted h with
              slots := u.slots, lines := u.lines
              queues := s.queues.set h { s.queues[h] with entries := entries.drop count.toNat } } ∧
            (∀ i : SlotId, u.slots[i] = if gone i then dropHolder h s.slots[i] else s.slots[i]) ∧
            (∀ l : LineId, u.lines[l] = { s.lines[l] with
              foldRise := keptRef (fun i => u.slots[i].isNone) s.lines[l].foldRise
              foldFall := keptRef (fun i => u.slots[i].isNone) s.lines[l].foldFall })
    | _ => Refuses (.ackEvents h tag payload) s .badArg

/-- R52: QUEUE_STATUS. -/
def Obligations.QueueStatusReportsAndClears : Prop :=
  ∀ (h : HostId) (tag : Byte) (payload : List Byte) (s : State),
    s.awaits (.queueStatus h tag payload) = true → s.isAttached h = true →
    let q := s.queues[h]
    let report := numberByte q.entries.length :: halfBytes q.pendingMisses ++
      halfBytes q.missedTotal ++ [q.threshold]
    if payload = [0#8] then Answers (.queueStatus h tag payload) s (s.restarted h) .ok report
    else if payload = [1#8] then
      Answers (.queueStatus h tag payload) s
        { s.restarted h with queues := s.queues.set h { q with missedTotal := 0 } } .ok report
    else Refuses (.queueStatus h tag payload) s .badArg

/-! ### The record pool -/

/-- R13, R31: the routing set of an offer: the candidates of its kind that are ATTACHED. -/
def Obligations.OffersAreRoutedByKind : Prop :=
  ∀ (s : State) (o : Offer) (h : HostId),
    (∀ l : LineId, o.source = .line l →
      (o.kind = .lineRise → (holds (s.routing o) h = true ↔
        s.sessions[h].state = .attached ∧ holds s.subscriptions[h].rise l = true)) ∧
      (o.kind = .lineFall → (holds (s.routing o) h = true ↔
        s.sessions[h].state = .attached ∧ holds s.subscriptions[h].fall l = true))) ∧
    (∀ g : HostId, o.source = .host g →
      o.kind ∈ [Kind.hostAttached, .hostDetached, .hostLost, .hostEvicted] →
      (holds (s.routing o) h = true ↔
        s.sessions[h].state = .attached ∧ s.subscriptions[h].session = true ∧ h ≠ g)) ∧
    (o.kind ∈ [Kind.timeWrap, .timeAdjusted] →
      (holds (s.routing o) h = true ↔
        s.sessions[h].state = .attached ∧ s.subscriptions[h].time = true)) ∧
    (o.kind ∈ [Kind.watchMatch, .watchTimeout, .note, .outputSeized, .reflexFired] →
      (holds (s.routing o) h = true ↔
        s.sessions[h].state = .attached ∧ holds o.named h = true))

/-- R14, R15, R16, R18 with R26, R38, R39 and R40: what the pool makes of an offer with routing set R.
Each host has exactly one of three effects: nothing, an entry at its tail, or a miss. -/
def Obligations.PoolTakesAnOffer : Prop :=
  ∀ (s : State) (o : Offer),
    let routed := s.routing o
    let full : HostId → Prop := fun h => 32 ≤ s.queues[h].entries.length
    let untouched : State → HostId → Prop := fun t h =>
      t.queues[h] = s.queues[h] ∧ t.attention[h] = s.attention[h]
    let missed : State → HostId → Prop := fun t h =>
      t.queues[h] = missedQueue s.queues[h] ∧ t.attention[h] = postedAttention s.attention[h] 0x04#5
    (routed = 0#4 → s.offer o = (s, .unrouted)) ∧
    (routed ≠ 0#4 → (∀ i : SlotId, s.slots[i] ≠ none) → o.kind = .note →
      s.offer o = (s, .noSlot)) ∧
    (routed ≠ 0#4 → (∀ i : SlotId, s.slots[i] ≠ none) → o.kind ≠ .note → ∃ t : State,
      s.offer o = (t, .noSlot) ∧
      t = { s with
        queues := t.queues, attention := t.attention
        exhaustion := if s.exhaustion = 0xFFFF#16 then s.exhaustion else s.exhaustion + 1#16 } ∧
      ∀ h : HostId, if holds routed h then missed t h else untouched t h) ∧
    (∀ i : SlotId, routed ≠ 0#4 → s.slots[i] = none → (∀ j : SlotId, j < i → s.slots[j] ≠ none) →
      if ∀ h : HostId, holds routed h = true → full h then ∃ t : State,
        s.offer o = (t, .allMissed routed) ∧
        t = { s with queues := t.queues, attention := t.attention } ∧
        ∀ h : HostId, if holds routed h then missed t h else untouched t h
      else ∃ (t : State) (recipients lost : HostSet),
        s.offer o = (t, .created i recipients lost) ∧
        (∀ h : HostId, (holds recipients h = true ↔ holds routed h = true ∧ ¬ full h) ∧
          (holds lost h = true ↔ holds routed h = true ∧ full h)) ∧
        t = { s with
          slots := s.slots.set i (some
            { seq := s.nextSeq, kind := o.kind, source := o.source, timestamp := o.timestamp,
              detail := o.detail, holders := recipients, shown := false, foldTarget := none })
          nextSeq := s.nextSeq + 1#16, queues := t.queues, attention := t.attention } ∧
        ∀ h : HostId,
          if holds recipients h then
            t.queues[h] = joinedQueue s.queues[h] i ∧
            t.attention[h] = postedAttention s.attention[h] (joinCauses s.queues[h])
          else if holds lost h then missed t h
          else untouched t h)

/-! ### Lines -/

/-- R65 with R23, R72: LINE_CONFIGURE, in every state that keeps the law of the fold references. That a
SUPERVISOR's take-over drops them too is the model's choice between R65 and R76 (log 20). -/
def Obligations.LineConfigureMakesTheCallerOwner : Prop :=
  ∀ (h : HostId) (tag : Byte) (payload : List Byte) (s : State),
    s.awaits (.lineConfigure h tag payload) = true → s.isAttached h = true → s.FoldLaw →
    (∀ (l : LineId) (sense : Sense) (filter : BitVec 12) (policy : Policy),
      payload = [numberByte l.val, match sense with | .rise => 1#8 | .fall => 2#8 | .both => 3#8]
        ++ halfBytes (filter.setWidth 16)
        ++ [match policy with | .each => 0#8 | .first => 1#8 | .latest => 2#8] →
      if (∃ g : HostId, s.lines[l].owner = some g ∧ g ≠ h) ∧ s.sessions[h].privilege = .ordinary then
        Refuses (.lineConfigure h tag payload) s .notOwner
      else if s.lines[l].state = .armed ∨ s.lines[l].state = .disarming then
        Refuses (.lineConfigure h tag payload) s .badState
      else ∃ u : State, Answers (.lineConfigure h tag payload) s u .ok [] ∧
        u = { s.restarted h with
          slots := u.slots
          lines := s.lines.set l { s.lines[l] with
            state := .disarmed, owner := some h, sense := sense, filter := filter, policy := policy
            foldRise := none, foldFall := none } } ∧
        ∀ i : SlotId, u.slots[i] = s.slots[i].map fun r =>
          { r with foldTarget := r.foldTarget.filter fun target => target.1 != l }) ∧
    ((∀ (l : LineId) (sense : Sense) (filter : BitVec 12) (policy : Policy),
      payload ≠ [numberByte l.val, match sense with | .rise => 1#8 | .fall => 2#8 | .both => 3#8]
        ++ halfBytes (filter.setWidth 16)
        ++ [match policy with | .each => 0#8 | .first => 1#8 | .latest => 2#8]) →
      Refuses (.lineConfigure h tag payload) s .badArg)

/-- R68 with R23: LINE_ARM and LINE_RELEASE, each check made over the whole set before the next. -/
def Obligations.LineArmAndReleaseActOnTheWholeSet : Prop :=
  ∀ (h : HostId) (tag : Byte) (payload : List Byte) (s : State),
    s.isAttached h = true → s.FoldLaw →
    ∀ i ∈ [Instr.lineArm h tag payload, .lineRelease h tag payload], s.awaits i = true →
    match payload with
    | [hi, lo] =>
      let named : LineSet := hi ++ lo
      if named = 0#16 then Refuses i s .badArg
      else if (∃ l : LineId, holds named l = true ∧ s.lines[l].owner ≠ some h) ∧
          s.sessions[h].privilege = .ordinary then
        Refuses i s .notOwner
      else if ∃ l : LineId, holds named l = true ∧ s.lines[l].state ≠ .disarmed then
        Refuses i s .badState
      else
        (i = .lineArm h tag payload → ∃ u : State, Answers i s u .ok [] ∧
          u = { s.restarted h with lines := u.lines } ∧
          ∀ l : LineId, u.lines[l] = if holds named l then { s.lines[l] with state := .armed }
            else s.lines[l]) ∧
        (i = .lineRelease h tag payload → ∃ u : State, Answers i s u .ok [] ∧
          u = { s.restarted h with slots := u.slots, lines := u.lines } ∧
          (∀ l : LineId, u.lines[l] = if holds named l then { s.lines[l] with
            state := .unset, owner := none, sense := .both, filter := 0, policy := .each
            foldRise := none, foldFall := none } else s.lines[l]) ∧
          ∀ j : SlotId, u.slots[j] = s.slots[j].map fun r =>
            { r with foldTarget := r.foldTarget.filter fun target => !holds named target.1 })
    | _ => Refuses i s .badArg

/-- R66: LINE_DISARM. -/
def Obligations.LineDisarmWaitsForAQualification : Prop :=
  ∀ (h : HostId) (tag : Byte) (payload : List Byte) (s : State),
    s.awaits (.lineDisarm h tag payload) = true → s.isAttached h = true →
    match payload with
    | [hi, lo] =>
      let named : LineSet := hi ++ lo
      if named = 0#16 then Refuses (.lineDisarm h tag payload) s .badArg
      else if (∃ (l : LineId) (g : HostId), holds named l = true ∧ s.lines[l].owner = some g ∧ g ≠ h) ∧
          s.sessions[h].privilege = .ordinary then
        Refuses (.lineDisarm h tag payload) s .notOwner
      else if ∃ l : LineId, holds named l = true ∧ s.lines[l].state = .unset then
        Refuses (.lineDisarm h tag payload) s .badState
      else ∃ (u : State) (disarming : LineSet),
        (∀ l : LineId, holds disarming l = true ↔
          holds named l = true ∧ u.lines[l].state = .disarming) ∧
        Answers (.lineDisarm h tag payload) s u .ok (halfBytes disarming) ∧
        u = { s.restarted h with lines := u.lines } ∧
        ∀ l : LineId, u.lines[l] =
          if holds named l = true ∧ s.lines[l].state = .armed then
            { s.lines[l] with
              state := if s.lines[l].qualification.isSome then .disarming else .disarmed }
          else s.lines[l]
    | _ => Refuses (.lineDisarm h tag payload) s .badArg

/-- R60, R61, R67: QUALIFICATION_START notes the tick and the filter time in force, and with a filter
time of 0 is a whole QUALIFIED_EDGE (log 5); GLITCH counts, ends the qualification and ends
DISARMING. -/
def Obligations.QualificationsStartAndGlitch : Prop :=
  ∀ (l : LineId) (s : State),
    (s.lines[l].qualification = none → (holds s.sample l = true ↔ s.lines[l].settled = .low) →
      if s.lines[l].filter = 0#12 then
        exec (.qualificationStart l) s = exec (.qualifiedEdge l) s
      else exec (.qualificationStart l) s = .next { s with
        lines := s.lines.set l { s.lines[l] with
          qualification :=
            some { t0 := s.hubTime, filter := s.lines[l].filter, elapsed := 0 } } }) ∧
    (∀ q : Qualification, s.lines[l].qualification = some q → 1 ≤ q.elapsed →
      (holds s.sample l = true ↔ s.lines[l].settled = .high) →
      exec (.glitch l) s = .next { s with
        lines := s.lines.set l { s.lines[l] with
          qualification := none
          glitches := if s.lines[l].glitches = 0xFFFF#16 then 0xFFFF#16
            else s.lines[l].glitches + 1#16
          state := if s.lines[l].state = .disarming then .disarmed else s.lines[l].state } })

/-- R62, R67, R69: QUALIFIED_EDGE, at the end of a qualification or, with a filter time of 0, at its
start (log 5). The settled level flips before the report, the report is made exactly on an ARMED or
DISARMING line whose sense has the kind, and DISARMING ends after it. -/
def Obligations.QualifiedEdgeFlipsAndReports : Prop :=
  ∀ (l : LineId) (s : State) (t0 : HubTime),
    (holds s.sample l = true ↔ s.lines[l].settled = .low) →
    ((∃ q : Qualification, s.lines[l].qualification = some q ∧ q.filter.toNat ≤ q.elapsed ∧
        t0 = q.t0) ∨
      (s.lines[l].qualification = none ∧ s.lines[l].filter = 0#12 ∧ t0 = s.hubTime)) →
    let x := s.lines[l]
    let kind : EdgeKind := match x.settled with | .low => .rise | .high => .fall
    let flipped : State := { s with lines := s.lines.set l { x with
      settled := match x.settled with | .low => .high | .high => .low
      lastRise := match x.settled with | .low => some t0 | .high => x.lastRise
      lastFall := match x.settled with | .low => x.lastFall | .high => some t0
      edges := x.edges + 1#16, qualification := none } }
    ∃ (snapshot : LineSet) (u : State),
      (∀ m : LineId, holds snapshot m = true ↔ flipped.lines[m].settled = .high) ∧
      (if (x.state = .armed ∨ x.state = .disarming) ∧
          (x.sense = .both ∨ (x.sense = .rise ∧ kind = .rise) ∨ (x.sense = .fall ∧ kind = .fall)) then
        u = flipped.reportEdge l kind t0 snapshot
      else u = flipped) ∧
      exec (.qualifiedEdge l) s = .next { u with lines := u.lines.set l { u.lines[l] with
        state := if u.lines[l].state = .disarming then .disarmed else u.lines[l].state } }

/-- R69, R126, R127, R73: a reported edge fires every output bound to its line and kind, and the pool
takes their REFLEX_FIRED offers in ascending order with the line's own offer or fold somewhere among
them (where: a free value, log 8). That no other event, such as a session end, comes among these offers is
the model's choice (log 23). -/
def Obligations.ReportedEdgesFireReflexes : Prop :=
  ∀ (s : State) (l : LineId) (k : EdgeKind) (t0 : HubTime) (snapshot : LineSet),
    let bound : OutputId → Option Level := fun o =>
      match s.outputs[o].binding with
      | none => none
      | some b => if b.line = l ∧ b.kind = k then some b.level else none
    let offers : List Offer := (List.finRange 8).filterMap fun o : OutputId =>
      (bound o).map fun level =>
        ⟨.reflexFired, .output o, t0, .reflex l level,
          match s.outputs[o].owner with | none => 0 | some h => single h⟩
    ∃ (fired : State) (n : Nat),
      fired = { s with outputs := fired.outputs, draws := fired.draws } ∧
      (∀ o : OutputId, fired.outputs[o] =
        match bound o with
        | none => s.outputs[o]
        | some level => { s.outputs[o] with pulse := none, drive := level }) ∧
      s.reportEdge l k t0 snapshot =
        ((fired.takeOffers (offers.take n)).recordEdge l k t0 snapshot).takeOffers (offers.drop n)

/-- R70, R71, R17, R20: the record part of a report. Under EACH, or with no fold reference of the kind,
the edge is offered; under FIRST and LATEST a record created becomes the fold target; with a fold
reference the edge folds into its record and nothing else changes. -/
def Obligations.EdgesAreOfferedOrFolded : Prop :=
  ∀ (s : State) (l : LineId) (k : EdgeKind) (t0 : HubTime) (snapshot : LineSet), s.FoldLaw →
    let offered := s.offer
      ⟨match k with | .rise => .lineRise | .fall => .lineFall, .line l, t0, .line snapshot none, 0⟩
    let ref := match k with | .rise => s.lines[l].foldRise | .fall => s.lines[l].foldFall
    (s.lines[l].policy = .each → s.recordEdge l k t0 snapshot = offered.1) ∧
    (s.lines[l].policy ≠ .each → ref = none →
      match offered.2 with
      | .created i _ _ => ∃ r : Record, offered.1.slots[i] = some r ∧
        s.recordEdge l k t0 snapshot = { offered.1 with
          slots := offered.1.slots.set i (some { r with foldTarget := some (l, k) })
          lines := offered.1.lines.set l (match k with
            | .rise => { offered.1.lines[l] with foldRise := some i }
            | .fall => { offered.1.lines[l] with foldFall := some i }) }
      | _ => s.recordEdge l k t0 snapshot = offered.1) ∧
    (s.lines[l].policy ≠ .each → ∀ (i : SlotId) (r : Record) (kept : LineSet) (count : Option Half),
      ref = some i → s.slots[i] = some r → r.detail = .line kept count →
      let raised : Half := match count with
        | none => 1#16
        | some n => if n = 0xFFFF#16 then n else n + 1#16
      s.recordEdge l k t0 snapshot = { s with
        slots := s.slots.set i (some (
          if s.lines[l].policy = .latest then
            { r with timestamp := t0, detail := .line snapshot (some raised) }
          else { r with detail := .line kept (some raised) })) })

/-! ### Watches -/

/-- R96, R97: WATCH_INSTALL. -/
def Obligations.WatchInstallTakesTheLowestEntry : Prop :=
  ∀ (h : HostId) (wtag : Byte) (payload : List Byte) (s : State),
    s.awaits (.watchInstall h wtag payload) = true → s.isAttached h = true →
    let encoding (tag : Byte) (mask pattern : LineSet) (period : Half) (confirm : Byte)
        (deadline : Half) (mode : WatchMode) (notify : HostSet) : List Byte :=
      tag :: halfBytes mask ++ halfBytes pattern ++ halfBytes period ++ [confirm] ++
        halfBytes deadline ++
        [match mode with | .once => 0#8 | .repeating => 1#8, notify.setWidth 8]
    (∀ (tag : Byte) (mask pattern : LineSet) (period : Half) (confirm : Byte) (deadline : Half)
        (mode : WatchMode) (notify : HostSet),
      payload = encoding tag mask pattern period confirm deadline mode notify →
      if mask = 0#16 ∨ period = 0#16 ∨ confirm = 0#8 ∨ 16 < confirm.toNat ∨
          (deadline ≠ 0#16 ∧ deadline.toNat < confirm.toNat) then
        Refuses (.watchInstall h wtag payload) s .badArg
      else if ∀ w : WatchId, s.watches[w].state ≠ .free then
        Refuses (.watchInstall h wtag payload) s .tableFull
      else ∃ (w : WatchId) (effective : HostSet),
        s.watches[w].state = .free ∧ (∀ v : WatchId, v < w → s.watches[v].state ≠ .free) ∧
        (∀ g : HostId, holds effective g = true ↔
          holds notify g = true ∧ s.sessions[g].state = .attached) ∧
        Answers (.watchInstall h wtag payload) s
          { s.restarted h with
            watches := s.watches.set w
              { state := .waiting, owner := some h, tag := tag, mask := mask,
                pattern := pattern &&& mask, period := period, confirm := confirm,
                deadline := deadline, mode := mode, notify := effective, checks := 0,
                consecutive := 0, ticks := period.toNat * 100 } } .ok
          [numberByte w.val, effective.setWidth 8]) ∧
    ((∀ (tag : Byte) (mask pattern : LineSet) (period : Half) (confirm : Byte) (deadline : Half)
        (mode : WatchMode) (notify : HostSet),
      payload ≠ encoding tag mask pattern period confirm deadline mode notify) →
      Refuses (.watchInstall h wtag payload) s .badArg)

/-- R108: WATCH_CANCEL. -/
def Obligations.WatchCancelFreesTheEntry : Prop :=
  ∀ (h : HostId) (tag : Byte) (payload : List Byte) (s : State),
    s.awaits (.watchCancel h tag payload) = true → s.isAttached h = true →
    match payload with
    | [index] =>
      if hw : index.toNat < 16 then
        let w : WatchId := ⟨index.toNat, hw⟩
        if s.watches[w].state ≠ .free ∧ s.watches[w].owner ≠ some h ∧
            s.sessions[h].privilege = .ordinary then
          Refuses (.watchCancel h tag payload) s .notOwner
        else if s.watches[w].state = .free then Refuses (.watchCancel h tag payload) s .noEntry
        else Answers (.watchCancel h tag payload) s
          { s.restarted h with watches := s.watches.set w Watch.blank } .ok
          [match s.watches[w].state with
            | .free => 0#8
            | .waiting => 1#8
            | .confirming => 2#8
            | .rearming => 3#8,
           (match s.watches[w].owner with | none => 0xFF#8 | some g => BitVec.ofNat 8 g.val),
           s.watches[w].tag]
      else Refuses (.watchCancel h tag payload) s .badArg
    | _ => Refuses (.watchCancel h tag payload) s .badArg

/-- R99 to R104: CHECK_EXPIRY, one check of an entry in use whose owner is ATTACHED (as R95 has it). -/
def Obligations.CheckExpiryMakesOneCheck : Prop :=
  ∀ (w : WatchId) (s : State) (g : HostId) (sample : LineSet),
    let e := s.watches[w]
    e.state ≠ .free → e.ticks = 0 → e.owner = some g → s.isAttached g = true →
    (∀ l : LineId, holds sample l = true ↔
      holds e.mask l = true ∧ s.lines[l].settled = .high) →
    let checks : Half := if e.checks = 0xFFFF#16 then e.checks else e.checks + 1#16
    let next : Nat := e.period.toNat * 100
    let goesOn : Watch → Prop := fun x =>
      exec (.checkExpiry w) s = .next { s with watches := s.watches.set w x }
    let ends : Kind → Watch → Prop := fun kind x =>
      let t := ({ s with watches := s.watches.set w x }.offer
        ⟨kind, .watch w, s.hubTime, .watch e.tag sample checks, e.notify⟩).1
      exec (.checkExpiry w) s = .next { t with
        attention := t.attention.set g (postedAttention t.attention[g] 0x08#5) }
    if e.state = .rearming then
      if sample = e.pattern then goesOn { e with ticks := next }
      else goesOn { e with state := .waiting, checks := 0, ticks := next }
    else if sample = e.pattern ∧ e.consecutive + 1#8 = e.confirm then
      ends .watchMatch (match e.mode with
        | .once => Watch.blank
        | .repeating =>
          { e with state := .rearming, checks := checks, consecutive := 0, ticks := next })
    else if e.deadline ≠ 0#16 ∧ checks = e.deadline then ends .watchTimeout Watch.blank
    else if sample = e.pattern then
      goesOn { e with
        state := .confirming, checks := checks, consecutive := e.consecutive + 1#8, ticks := next }
    else goesOn { e with state := .waiting, checks := checks, consecutive := 0, ticks := next }

/-! ### Outputs -/

/-- R117, R119, R120: OUT_CLAIM, OUT_RELEASE and OUT_DRIVE, each for the whole set or refused. -/
def Obligations.OutputSetsAreClaimedReleasedAndDriven : Prop :=
  ∀ (h : HostId) (tag : Byte) (payload : List Byte) (s : State), s.isAttached h = true →
    (s.awaits (.outClaim h tag payload) = true →
      match payload with
      | [outs] =>
        if outs = 0#8 then Refuses (.outClaim h tag payload) s .badArg
        else if ∃ (o : OutputId) (g : HostId),
            holds outs o = true ∧ s.outputs[o].owner = some g ∧ g ≠ h then
          Refuses (.outClaim h tag payload) s .held
        else ∃ (u : State) (owned : OutputSet),
          (∀ o : OutputId, holds owned o = true ↔ u.outputs[o].owner = some h) ∧
          Answers (.outClaim h tag payload) s u .ok [owned] ∧
          u = { s.restarted h with outputs := u.outputs } ∧
          ∀ o : OutputId, u.outputs[o] = if holds outs o then { s.outputs[o] with owner := some h }
            else s.outputs[o]
      | _ => Refuses (.outClaim h tag payload) s .badArg) ∧
    (s.awaits (.outRelease h tag payload) = true →
      match payload with
      | [outs] =>
        if outs = 0#8 then Refuses (.outRelease h tag payload) s .badArg
        else if ∃ o : OutputId, holds outs o = true ∧ s.outputs[o].owner ≠ some h then
          Refuses (.outRelease h tag payload) s .notOwner
        else ∃ (u : State) (cancelled : OutputSet),
          (∀ o : OutputId, holds cancelled o = true ↔
            holds outs o = true ∧ s.outputs[o].pulse ≠ none) ∧
          Answers (.outRelease h tag payload) s u .ok [cancelled] ∧
          u = { s.restarted h with outputs := u.outputs } ∧
          ∀ o : OutputId, u.outputs[o] = if holds outs o then { s.outputs[o] with
            owner := none, drive := s.outputs[o].safe, pulse := none, binding := none }
            else s.outputs[o]
      | _ => Refuses (.outRelease h tag payload) s .badArg) ∧
    (s.awaits (.outDrive h tag payload) = true →
      match payload with
      | [outs, levels] =>
        if outs = 0#8 then Refuses (.outDrive h tag payload) s .badArg
        else if ∃ o : OutputId, holds outs o = true ∧ s.outputs[o].owner ≠ some h then
          Refuses (.outDrive h tag payload) s .notOwner
        else if ∃ o : OutputId, holds outs o = true ∧ s.outputs[o].pulse ≠ none then
          Refuses (.outDrive h tag payload) s .busy
        else ∃ (u : State) (driven : OutputSet),
          (∀ o : OutputId, holds driven o = true ↔ u.outputs[o].drive = .high) ∧
          Answers (.outDrive h tag payload) s u .ok [driven] ∧
          u = { s.restarted h with outputs := u.outputs } ∧
          ∀ o : OutputId, u.outputs[o] = if holds outs o then { s.outputs[o] with
            drive := if levels.getLsbD o.val then .high else .low } else s.outputs[o]
      | _ => Refuses (.outDrive h tag payload) s .badArg)

/-- R121, R122: OUT_PULSE, its comparison with the drive level made before the ownership check, and
PULSE_EXPIRY, when the ticks remaining have come to their end (log 7). -/
def Obligations.PulsesDriveAndReturn : Prop :=
  (∀ (h : HostId) (tag : Byte) (payload : List Byte) (s : State),
    s.awaits (.outPulse h tag payload) = true → s.isAttached h = true →
    match payload with
    | [out, lev, hi, lo] =>
      if ho : out.toNat < 8 then
        let o : OutputId := ⟨out.toNat, ho⟩
        let level : Level := if lev = 1#8 then .high else .low
        let duration : Half := hi ++ lo
        if 1 < lev.toNat ∨ duration = 0#16 ∨ level = s.outputs[o].drive then
          Refuses (.outPulse h tag payload) s .badArg
        else if s.outputs[o].owner ≠ some h then Refuses (.outPulse h tag payload) s .notOwner
        else if s.outputs[o].pulse ≠ none then Refuses (.outPulse h tag payload) s .busy
        else Answers (.outPulse h tag payload) s
          { s.restarted h with outputs := s.outputs.set o { s.outputs[o] with
            drive := level
            pulse := some
              { level := level, returnLevel := s.outputs[o].drive,
                count := { remaining := duration.toNat * 10, due := false } } } } .ok []
      else Refuses (.outPulse h tag payload) s .badArg
    | _ => Refuses (.outPulse h tag payload) s .badArg) ∧
  (∀ (o : OutputId) (s : State) (p : Pulse), s.outputs[o].pulse = some p → p.count.due = true →
    exec (.pulseExpiry o) s = .next { s with
      outputs := s.outputs.set o { s.outputs[o] with drive := p.returnLevel, pulse := none } })

/-- R124, R125: OUT_BIND and OUT_UNBIND. -/
def Obligations.BindingsAreSetAndRemoved : Prop :=
  ∀ (h : HostId) (tag : Byte) (payload : List Byte) (s : State), s.isAttached h = true →
    (s.awaits (.outBind h tag payload) = true →
      (∀ (o : OutputId) (l : LineId) (k : EdgeKind) (level : Level),
        payload = [numberByte o.val, numberByte l.val, match k with | .rise => 1#8 | .fall => 2#8,
          match level with | .low => 0#8 | .high => 1#8] →
        if s.outputs[o].owner ≠ some h then Refuses (.outBind h tag payload) s .notOwner
        else Answers (.outBind h tag payload) s
          { s.restarted h with outputs := s.outputs.set o { s.outputs[o] with
            binding := some { line := l, kind := k, level := level } } } .ok
          [if s.outputs[o].binding = none then 0#8 else 1#8]) ∧
      ((∀ (o : OutputId) (l : LineId) (k : EdgeKind) (level : Level),
        payload ≠ [numberByte o.val, numberByte l.val, match k with | .rise => 1#8 | .fall => 2#8,
          match level with | .low => 0#8 | .high => 1#8]) →
        Refuses (.outBind h tag payload) s .badArg)) ∧
    (s.awaits (.outUnbind h tag payload) = true →
      (∀ o : OutputId, payload = [numberByte o.val] →
        if s.outputs[o].owner ≠ some h then Refuses (.outUnbind h tag payload) s .notOwner
        else Answers (.outUnbind h tag payload) s
          { s.restarted h with
            outputs := s.outputs.set o { s.outputs[o] with binding := none } } .ok
          [if s.outputs[o].binding = none then 0#8 else 1#8]) ∧
      ((∀ o : OutputId, payload ≠ [numberByte o.val]) →
        Refuses (.outUnbind h tag payload) s .badArg))

/-- R129, R130: OUT_SEIZE, in every state in which an owner is ATTACHED (as R141 has it). -/
def Obligations.OutSeizeTakesFromOrdinaryHosts : Prop :=
  ∀ (h : HostId) (tag : Byte) (payload : List Byte) (s : State),
    s.awaits (.outSeize h tag payload) = true → s.isAttached h = true →
    (∀ (o : OutputId) (g : HostId), s.outputs[o].owner = some g → s.isAttached g = true) →
    match payload with
    | [outs] =>
      if outs = 0#8 then Refuses (.outSeize h tag payload) s .badArg
      else if s.sessions[h].privilege = .ordinary then Refuses (.outSeize h tag payload) s .privilege
      else if ∃ (o : OutputId) (g : HostId), holds outs o = true ∧ s.outputs[o].owner = some g ∧
          g ≠ h ∧ s.sessions[g].privilege = .supervisor then
        Refuses (.outSeize h tag payload) s .privilege
      else ∃ (u : State) (taken cancelled : OutputSet),
        (∀ o : OutputId, (holds taken o = true ↔ holds outs o = true ∧
            ∃ g : HostId, s.outputs[o].owner = some g ∧ g ≠ h) ∧
          (holds cancelled o = true ↔ holds taken o = true ∧ s.outputs[o].pulse ≠ none)) ∧
        u = { s.restarted h with outputs := u.outputs, attention := u.attention } ∧
        (∀ o : OutputId, u.outputs[o] =
          if holds taken o then { s.outputs[o] with
            owner := some h, pulse := none, binding := none
            drive := match s.outputs[o].pulse with
              | none => s.outputs[o].drive
              | some p => p.returnLevel }
          else if holds outs o then { s.outputs[o] with owner := some h }
          else s.outputs[o]) ∧
        (∀ g : HostId, u.attention[g] =
          if ∃ o : OutputId, holds taken o = true ∧ s.outputs[o].owner = some g then
            postedAttention s.attention[g] 0x10#5
          else s.attention[g]) ∧
        Answers (.outSeize h tag payload) s
          (u.takeOffers (((List.finRange 8).filter fun o => holds taken o).map fun o : OutputId =>
            ⟨.outputSeized, .output o, s.hubTime, .seized h,
              match s.outputs[o].owner with | none => 0 | some g => single g⟩)) .ok
          [taken, cancelled]
    | _ => Refuses (.outSeize h tag payload) s .badArg

/-- R132: OUT_SAFE. -/
def Obligations.OutSafeMovesUnownedOutputs : Prop :=
  ∀ (h : HostId) (tag : Byte) (payload : List Byte) (s : State),
    s.awaits (.outSafe h tag payload) = true → s.isAttached h = true →
    match payload with
    | [outs, levels] =>
      if outs = 0#8 then Refuses (.outSafe h tag payload) s .badArg
      else if s.sessions[h].privilege = .ordinary then Refuses (.outSafe h tag payload) s .privilege
      else ∃ (u : State) (safe : OutputSet),
        (∀ o : OutputId, holds safe o = true ↔ u.outputs[o].safe = .high) ∧
        Answers (.outSafe h tag payload) s u .ok [safe] ∧
        u = { s.restarted h with outputs := u.outputs } ∧
        ∀ o : OutputId,
          let level : Level := if levels.getLsbD o.val then .high else .low
          u.outputs[o] =
            if holds outs o then { s.outputs[o] with
              safe := level, drive := if s.outputs[o].owner = none then level
                else s.outputs[o].drive }
            else s.outputs[o]
    | _ => Refuses (.outSafe h tag payload) s .badArg

/-- R75, R110, R133: LINE_STATUS, WATCH_READ and OUT_STATUS report and change nothing. -/
def Obligations.StatusCommandsReport : Prop :=
  ∀ (h : HostId) (tag : Byte) (payload : List Byte) (s : State), s.isAttached h = true →
    (s.awaits (.lineStatus h tag payload) = true →
      (∀ l : LineId, payload = [numberByte l.val] →
        let x := s.lines[l]
        ∃ (flags : Byte) (settled : LineSet),
          flags.getLsbD 0 = decide (x.settled = .high) ∧
          flags.getLsbD 1 = x.qualification.isSome ∧ flags.getLsbD 2 = x.lastRise.isSome ∧
          flags.getLsbD 3 = x.lastFall.isSome ∧ flags.toNat < 16 ∧
          (∀ m : LineId, holds settled m = true ↔ s.lines[m].settled = .high) ∧
          Answers (.lineStatus h tag payload) s (s.restarted h) .ok
            ([match x.state with
                | .unset => 0#8
                | .disarmed => 1#8
                | .armed => 2#8
                | .disarming => 3#8,
              (match x.owner with | none => 0xFF#8 | some g => BitVec.ofNat 8 g.val),
              match x.sense with | .rise => 1#8 | .fall => 2#8 | .both => 3#8]
            ++ halfBytes (x.filter.setWidth 16)
            ++ [match x.policy with | .each => 0#8 | .first => 1#8 | .latest => 2#8, flags]
            ++ wordBytes (match x.qualification with | none => 0 | some q => q.t0)
            ++ halfBytes (match x.qualification with | none => 0 | some q => q.filter.setWidth 16)
            ++ wordBytes (x.lastRise.getD 0) ++ wordBytes (x.lastFall.getD 0)
            ++ halfBytes x.edges ++ halfBytes x.glitches ++ halfBytes settled)) ∧
      ((∀ l : LineId, payload ≠ [numberByte l.val]) →
        Refuses (.lineStatus h tag payload) s .badArg)) ∧
    (s.awaits (.watchRead h tag payload) = true →
      (∀ w : WatchId, payload = [numberByte w.val] →
        let e := s.watches[w]
        Answers (.watchRead h tag payload) s (s.restarted h) .ok
          ([match e.state with
              | .free => 0#8
              | .waiting => 1#8
              | .confirming => 2#8
              | .rearming => 3#8,
            (match e.owner with | none => 0xFF#8 | some g => BitVec.ofNat 8 g.val), e.tag]
          ++ halfBytes e.mask ++ halfBytes e.pattern ++ halfBytes e.period ++ [e.confirm]
          ++ halfBytes e.deadline ++ [match e.mode with | .once => 0#8 | .repeating => 1#8,
            e.notify.setWidth 8]
          ++ halfBytes e.checks ++ [e.consecutive] ++ wordBytes (BitVec.ofNat 32 e.ticks))) ∧
      ((∀ w : WatchId, payload ≠ [numberByte w.val]) →
        Refuses (.watchRead h tag payload) s .badArg)) ∧
    (s.awaits (.outStatus h tag payload) = true →
      if payload ≠ [] then Refuses (.outStatus h tag payload) s .badArg
      else ∃ flags : OutputId → Byte,
        (∀ o : OutputId,
          let x := s.outputs[o]
          (flags o).getLsbD 0 = decide (x.drive = .high) ∧
          (flags o).getLsbD 1 = decide (x.safe = .high) ∧
          (flags o).getLsbD 2 = x.pulse.isSome ∧
          ((flags o).getLsbD 3 = true ↔ ∃ p, x.pulse = some p ∧ p.level = .high) ∧
          (flags o).getLsbD 4 = x.binding.isSome ∧
          ((flags o).getLsbD 5 = true ↔ ∃ b, x.binding = some b ∧ b.kind = .fall) ∧
          ((flags o).getLsbD 6 = true ↔ ∃ b, x.binding = some b ∧ b.level = .high) ∧
          (flags o).getLsbD 7 = false) ∧
        Answers (.outStatus h tag payload) s (s.restarted h) .ok
          ((List.finRange 8).flatMap fun o : OutputId =>
            [(match s.outputs[o].owner with | none => 0xFF#8 | some g => BitVec.ofNat 8 g.val),
              flags o]
            ++ wordBytes (match s.outputs[o].pulse with
              | none => 0
              | some p => BitVec.ofNat 32 p.count.remaining)
            ++ [match s.outputs[o].binding with
              | none => 0xFF#8
              | some b => numberByte b.line.val]))

/-! ### Attention -/

/-- R165, R167 with R164: SET_ATTENTION and CLEAR_ATTENTION. -/
def Obligations.AttentionIsSetAndCleared : Prop :=
  ∀ (h : HostId) (tag : Byte) (payload : List Byte) (s : State), s.isAttached h = true →
    let a := s.attention[h]
    (s.awaits (.setAttention h tag payload) = true →
      match payload with
      | [enabled, threshold] =>
        if enabled &&& 0xE0#8 ≠ 0#8 ∨ threshold = 0#8 ∨ 32 < threshold.toNat then
          Refuses (.setAttention h tag payload) s .badArg
        else
          let causes : CauseSet := enabled.setWidth 5
          Answers (.setAttention h tag payload) s
            { s.restarted h with
              attention := s.attention.set h
                { posted := a.posted, enabled := causes,
                  asserted := decide (a.posted &&& causes ≠ 0#5) }
              queues := s.queues.set h { s.queues[h] with threshold := threshold } } .ok
            [enabled, threshold, a.posted.setWidth 8]
      | _ => Refuses (.setAttention h tag payload) s .badArg) ∧
    (s.awaits (.clearAttention h tag payload) = true →
      match payload with
      | [clear] =>
        if clear &&& 0xE0#8 ≠ 0#8 then Refuses (.clearAttention h tag payload) s .badArg
        else
          let left : CauseSet := a.posted &&& ~~~(clear.setWidth 5)
          Answers (.clearAttention h tag payload) s
            { s.restarted h with
              attention := s.attention.set h
                { posted := left, enabled := a.enabled,
                  asserted := decide (left &&& a.enabled ≠ 0#5) } } .ok
            [a.posted.setWidth 8, a.enabled.setWidth 8]
      | _ => Refuses (.clearAttention h tag payload) s .badArg)

/-! ### The laws, kept by every step -/

/-- R2, R37 and the other laws hold in the state right after reset. -/
def Obligations.EveryLawHoldsAtReset : Prop :=
  State.reset.HolderLaw ∧ State.reset.QueueLaw ∧ State.reset.FoldLaw ∧ State.reset.LineLaw ∧
  State.reset.WatchLaw ∧ (∀ w : WatchId, State.reset.watches[w].CountLaw) ∧
  (∀ o : OutputId, State.reset.outputs[o].OwnerLaw ∧ State.reset.outputs[o].PulseLaw) ∧
  State.reset.SessionLaw ∧ State.reset.NoticeLaw ∧ State.reset.AttentionLaw ∧
  (∀ h : HostId, State.reset.ports[h].Law) ∧ State.reset.RecordLaw

/-- R2 and the bounds of R37: a record is in use exactly while some queue refers to it, its holder set
is exactly the set of hosts whose queues do, and no queue is over-full or refers twice. -/
def Obligations.StepKeepsTheHolderAndQueueLaws : Prop :=
  ∀ s t : State, s.HolderLaw → s.QueueLaw → step s = .next t → t.HolderLaw ∧ t.QueueLaw

/-- R3, R71: fold references and fold targets stay paired, and a fold reference refers to an OPEN record
of its line and kind. -/
def Obligations.StepKeepsTheFoldLaw : Prop :=
  ∀ s t : State, s.FoldLaw → step s = .next t → t.FoldLaw

/-- R64: the Line Monitor's first law. -/
def Obligations.StepKeepsTheLineLaw : Prop :=
  ∀ s t : State, s.LineLaw → step s = .next t → t.LineLaw

/-- R95 and what R94 says of an entry by its state. -/
def Obligations.StepKeepsTheWatchLaws : Prop :=
  (∀ s t : State, s.WatchLaw → step s = .next t → t.WatchLaw) ∧
  (∀ s t : State, (∀ w : WatchId, s.watches[w].CountLaw) → step s = .next t →
    ∀ w : WatchId, t.watches[w].CountLaw)

/-- R116 and what R115 says of a pulse in flight. -/
def Obligations.StepKeepsTheOutputLaws : Prop :=
  ∀ s t : State, (∀ o : OutputId, s.outputs[o].OwnerLaw ∧ s.outputs[o].PulseLaw) →
    step s = .next t → ∀ o : OutputId, t.outputs[o].OwnerLaw ∧ t.outputs[o].PulseLaw

/-- R141: a host that is not ATTACHED holds and owns nothing. -/
def Obligations.StepKeepsTheSessionLaw : Prop :=
  ∀ s t : State, s.SessionLaw → step s = .next t → t.SessionLaw

/-- R153, R164: the notice flag and loss reason by session state, and the attention output by the four
things it depends on. -/
def Obligations.StepKeepsTheNoticeAndAttentionLaws : Prop :=
  (∀ s t : State, s.NoticeLaw → step s = .next t → t.NoticeLaw) ∧
  (∀ s t : State, s.AttentionLaw → step s = .next t → t.AttentionLaw)

/-- R174 to R176 of the ports, and R5 of the records. -/
def Obligations.StepKeepsThePortAndRecordLaws : Prop :=
  (∀ s t : State, (∀ h : HostId, s.ports[h].Law) → step s = .next t →
    ∀ h : HostId, t.ports[h].Law) ∧
  (∀ s t : State, s.RecordLaw → step s = .next t → t.RecordLaw)

/-- R37: entries leave a queue only from its head and join only at its tail, and those that join in one
command stand in the order in which their records were created. -/
def Obligations.QueuesKeepCreationOrder : Prop :=
  ∀ (c : Instr) (s t : State), exec c s = .next t → ∀ h : HostId,
    ∃ (removed : Nat) (joined : List Entry),
      t.queues[h].entries = s.queues[h].entries.drop removed ++ joined ∧
      (∀ e ∈ joined, ∃ r : Record, t.slots[e.slot] = some r ∧ (r.seq - s.nextSeq).toNat < 16) ∧
      joined.Pairwise fun e e' => ∀ r ∈ t.slots[e.slot], ∀ r' ∈ t.slots[e'.slot],
        (r.seq - s.nextSeq).toNat < (r'.seq - s.nextSeq).toNat

/-- R19, the pool's second law: once SHOWN, a record's sequence, kind, source, timestamp and detail do
not change until it is freed. A slot freed by a session end may be taken again within it, by its session
record (R25). -/
def Obligations.ShownContentNeverChanges : Prop :=
  ∀ (c : Instr) (s t : State) (i : SlotId) (r : Record), s.FoldLaw → exec c s = .next t →
    s.slots[i] = some r → r.shown = true →
    match t.slots[i] with
    | none => True
    | some r' =>
      (r' = { r with holders := r'.holders }) ∨
      (r'.seq = s.nextSeq ∧ t.nextSeq = s.nextSeq + 1#16 ∧ r'.shown = false ∧
        r'.kind ∈ [Kind.hostDetached, .hostLost, .hostEvicted])

/-- R65 to R68, R96, R108, R117 to R132, R139: no request of an ORDINARY host changes an output, a line
or a watch entry that another host owns, another host's session or subscriptions, a safe level or the
time; of another host's queue it changes only the tail and the counts. Two things of another host's are
excepted: the fold references of its lines, which showing and freeing records clears (R19, R24), and the
notify sets of its watch entries, which the caller leaves at its session end (R112). -/
def Obligations.OrdinaryHostsCannotDisturbOthers : Prop :=
  ∀ (i : Instr) (f : RequestFrame) (s t : State), i.frame? = some f → exec i s = .next t →
    s.sessions[f.host].privilege = .ordinary →
    (∀ (o : OutputId) (g : HostId), s.outputs[o].owner = some g → g ≠ f.host →
      t.outputs[o] = s.outputs[o]) ∧
    (∀ o : OutputId, t.outputs[o].safe = s.outputs[o].safe) ∧
    (∀ (l : LineId) (g : HostId), s.lines[l].owner = some g → g ≠ f.host →
      t.lines[l] = { s.lines[l] with
        foldRise := t.lines[l].foldRise, foldFall := t.lines[l].foldFall }) ∧
    (∀ (w : WatchId) (g : HostId), s.watches[w].state ≠ .free → s.watches[w].owner = some g →
      g ≠ f.host → t.watches[w] = { s.watches[w] with notify := t.watches[w].notify }) ∧
    (∀ g : HostId, g ≠ f.host →
      t.sessions[g] = s.sessions[g] ∧ t.subscriptions[g] = s.subscriptions[g] ∧
      t.ports[g] = s.ports[g] ∧ t.queues[g].threshold = s.queues[g].threshold ∧
      t.attention[g].enabled = s.attention[g].enabled ∧
      s.queues[g].entries <+: t.queues[g].entries) ∧
    t.hubTime = s.hubTime ∧ t.epoch = s.epoch
end

