-- ==== Sys2Proof/Laws/State.lean ====
section
/-!
SUPPORT. One lemma per field per update of the state: what each setter, each step of the pool and the
taking of a request leave of every field. All but a few are true by rfl.
-/

namespace Sys2Proof.Machine

variable (s : State)

/-! ### setSlot -/

@[simp] theorem setSlot_slots (i : SlotId) (r : Option Record) : (s.setSlot i r).slots = s.slots.set i.val r := rfl
@[simp] theorem setSlot_nextSeq (i : SlotId) (r : Option Record) : (s.setSlot i r).nextSeq = s.nextSeq := rfl
@[simp] theorem setSlot_exhaustion (i : SlotId) (r : Option Record) : (s.setSlot i r).exhaustion = s.exhaustion := rfl
@[simp] theorem setSlot_subscriptions (i : SlotId) (r : Option Record) : (s.setSlot i r).subscriptions = s.subscriptions := rfl
@[simp] theorem setSlot_queues (i : SlotId) (r : Option Record) : (s.setSlot i r).queues = s.queues := rfl
@[simp] theorem setSlot_lines (i : SlotId) (r : Option Record) : (s.setSlot i r).lines = s.lines := rfl
@[simp] theorem setSlot_sample (i : SlotId) (r : Option Record) : (s.setSlot i r).sample = s.sample := rfl
@[simp] theorem setSlot_hubTime (i : SlotId) (r : Option Record) : (s.setSlot i r).hubTime = s.hubTime := rfl
@[simp] theorem setSlot_epoch (i : SlotId) (r : Option Record) : (s.setSlot i r).epoch = s.epoch := rfl
@[simp] theorem setSlot_countOwed (i : SlotId) (r : Option Record) : (s.setSlot i r).countOwed = s.countOwed := rfl
@[simp] theorem setSlot_watches (i : SlotId) (r : Option Record) : (s.setSlot i r).watches = s.watches := rfl
@[simp] theorem setSlot_outputs (i : SlotId) (r : Option Record) : (s.setSlot i r).outputs = s.outputs := rfl
@[simp] theorem setSlot_sessions (i : SlotId) (r : Option Record) : (s.setSlot i r).sessions = s.sessions := rfl
@[simp] theorem setSlot_resetCause (i : SlotId) (r : Option Record) : (s.setSlot i r).resetCause = s.resetCause := rfl
@[simp] theorem setSlot_attention (i : SlotId) (r : Option Record) : (s.setSlot i r).attention = s.attention := rfl
@[simp] theorem setSlot_ports (i : SlotId) (r : Option Record) : (s.setSlot i r).ports = s.ports := rfl
@[simp] theorem setSlot_draws (i : SlotId) (r : Option Record) : (s.setSlot i r).draws = s.draws := rfl
@[simp] theorem setSlot_pending (i : SlotId) (r : Option Record) : (s.setSlot i r).pending = s.pending := rfl

/-! ### setSubscription -/

@[simp] theorem setSubscription_slots (h : HostId) (x : Subscription) : (s.setSubscription h x).slots = s.slots := rfl
@[simp] theorem setSubscription_nextSeq (h : HostId) (x : Subscription) : (s.setSubscription h x).nextSeq = s.nextSeq := rfl
@[simp] theorem setSubscription_exhaustion (h : HostId) (x : Subscription) : (s.setSubscription h x).exhaustion = s.exhaustion := rfl
@[simp] theorem setSubscription_subscriptions (h : HostId) (x : Subscription) : (s.setSubscription h x).subscriptions = s.subscriptions.set h.val x := rfl
@[simp] theorem setSubscription_queues (h : HostId) (x : Subscription) : (s.setSubscription h x).queues = s.queues := rfl
@[simp] theorem setSubscription_lines (h : HostId) (x : Subscription) : (s.setSubscription h x).lines = s.lines := rfl
@[simp] theorem setSubscription_sample (h : HostId) (x : Subscription) : (s.setSubscription h x).sample = s.sample := rfl
@[simp] theorem setSubscription_hubTime (h : HostId) (x : Subscription) : (s.setSubscription h x).hubTime = s.hubTime := rfl
@[simp] theorem setSubscription_epoch (h : HostId) (x : Subscription) : (s.setSubscription h x).epoch = s.epoch := rfl
@[simp] theorem setSubscription_countOwed (h : HostId) (x : Subscription) : (s.setSubscription h x).countOwed = s.countOwed := rfl
@[simp] theorem setSubscription_watches (h : HostId) (x : Subscription) : (s.setSubscription h x).watches = s.watches := rfl
@[simp] theorem setSubscription_outputs (h : HostId) (x : Subscription) : (s.setSubscription h x).outputs = s.outputs := rfl
@[simp] theorem setSubscription_sessions (h : HostId) (x : Subscription) : (s.setSubscription h x).sessions = s.sessions := rfl
@[simp] theorem setSubscription_resetCause (h : HostId) (x : Subscription) : (s.setSubscription h x).resetCause = s.resetCause := rfl
@[simp] theorem setSubscription_attention (h : HostId) (x : Subscription) : (s.setSubscription h x).attention = s.attention := rfl
@[simp] theorem setSubscription_ports (h : HostId) (x : Subscription) : (s.setSubscription h x).ports = s.ports := rfl
@[simp] theorem setSubscription_draws (h : HostId) (x : Subscription) : (s.setSubscription h x).draws = s.draws := rfl
@[simp] theorem setSubscription_pending (h : HostId) (x : Subscription) : (s.setSubscription h x).pending = s.pending := rfl

/-! ### setQueue -/

@[simp] theorem setQueue_slots (h : HostId) (q : Queue) : (s.setQueue h q).slots = s.slots := rfl
@[simp] theorem setQueue_nextSeq (h : HostId) (q : Queue) : (s.setQueue h q).nextSeq = s.nextSeq := rfl
@[simp] theorem setQueue_exhaustion (h : HostId) (q : Queue) : (s.setQueue h q).exhaustion = s.exhaustion := rfl
@[simp] theorem setQueue_subscriptions (h : HostId) (q : Queue) : (s.setQueue h q).subscriptions = s.subscriptions := rfl
@[simp] theorem setQueue_queues (h : HostId) (q : Queue) : (s.setQueue h q).queues = s.queues.set h.val q := rfl
@[simp] theorem setQueue_lines (h : HostId) (q : Queue) : (s.setQueue h q).lines = s.lines := rfl
@[simp] theorem setQueue_sample (h : HostId) (q : Queue) : (s.setQueue h q).sample = s.sample := rfl
@[simp] theorem setQueue_hubTime (h : HostId) (q : Queue) : (s.setQueue h q).hubTime = s.hubTime := rfl
@[simp] theorem setQueue_epoch (h : HostId) (q : Queue) : (s.setQueue h q).epoch = s.epoch := rfl
@[simp] theorem setQueue_countOwed (h : HostId) (q : Queue) : (s.setQueue h q).countOwed = s.countOwed := rfl
@[simp] theorem setQueue_watches (h : HostId) (q : Queue) : (s.setQueue h q).watches = s.watches := rfl
@[simp] theorem setQueue_outputs (h : HostId) (q : Queue) : (s.setQueue h q).outputs = s.outputs := rfl
@[simp] theorem setQueue_sessions (h : HostId) (q : Queue) : (s.setQueue h q).sessions = s.sessions := rfl
@[simp] theorem setQueue_resetCause (h : HostId) (q : Queue) : (s.setQueue h q).resetCause = s.resetCause := rfl
@[simp] theorem setQueue_attention (h : HostId) (q : Queue) : (s.setQueue h q).attention = s.attention := rfl
@[simp] theorem setQueue_ports (h : HostId) (q : Queue) : (s.setQueue h q).ports = s.ports := rfl
@[simp] theorem setQueue_draws (h : HostId) (q : Queue) : (s.setQueue h q).draws = s.draws := rfl
@[simp] theorem setQueue_pending (h : HostId) (q : Queue) : (s.setQueue h q).pending = s.pending := rfl

/-! ### setLine -/

@[simp] theorem setLine_slots (l : LineId) (x : Line) : (s.setLine l x).slots = s.slots := rfl
@[simp] theorem setLine_nextSeq (l : LineId) (x : Line) : (s.setLine l x).nextSeq = s.nextSeq := rfl
@[simp] theorem setLine_exhaustion (l : LineId) (x : Line) : (s.setLine l x).exhaustion = s.exhaustion := rfl
@[simp] theorem setLine_subscriptions (l : LineId) (x : Line) : (s.setLine l x).subscriptions = s.subscriptions := rfl
@[simp] theorem setLine_queues (l : LineId) (x : Line) : (s.setLine l x).queues = s.queues := rfl
@[simp] theorem setLine_lines (l : LineId) (x : Line) : (s.setLine l x).lines = s.lines.set l.val x := rfl
@[simp] theorem setLine_sample (l : LineId) (x : Line) : (s.setLine l x).sample = s.sample := rfl
@[simp] theorem setLine_hubTime (l : LineId) (x : Line) : (s.setLine l x).hubTime = s.hubTime := rfl
@[simp] theorem setLine_epoch (l : LineId) (x : Line) : (s.setLine l x).epoch = s.epoch := rfl
@[simp] theorem setLine_countOwed (l : LineId) (x : Line) : (s.setLine l x).countOwed = s.countOwed := rfl
@[simp] theorem setLine_watches (l : LineId) (x : Line) : (s.setLine l x).watches = s.watches := rfl
@[simp] theorem setLine_outputs (l : LineId) (x : Line) : (s.setLine l x).outputs = s.outputs := rfl
@[simp] theorem setLine_sessions (l : LineId) (x : Line) : (s.setLine l x).sessions = s.sessions := rfl
@[simp] theorem setLine_resetCause (l : LineId) (x : Line) : (s.setLine l x).resetCause = s.resetCause := rfl
@[simp] theorem setLine_attention (l : LineId) (x : Line) : (s.setLine l x).attention = s.attention := rfl
@[simp] theorem setLine_ports (l : LineId) (x : Line) : (s.setLine l x).ports = s.ports := rfl
@[simp] theorem setLine_draws (l : LineId) (x : Line) : (s.setLine l x).draws = s.draws := rfl
@[simp] theorem setLine_pending (l : LineId) (x : Line) : (s.setLine l x).pending = s.pending := rfl

/-! ### setWatch -/

@[simp] theorem setWatch_slots (w : WatchId) (x : Watch) : (s.setWatch w x).slots = s.slots := rfl
@[simp] theorem setWatch_nextSeq (w : WatchId) (x : Watch) : (s.setWatch w x).nextSeq = s.nextSeq := rfl
@[simp] theorem setWatch_exhaustion (w : WatchId) (x : Watch) : (s.setWatch w x).exhaustion = s.exhaustion := rfl
@[simp] theorem setWatch_subscriptions (w : WatchId) (x : Watch) : (s.setWatch w x).subscriptions = s.subscriptions := rfl
@[simp] theorem setWatch_queues (w : WatchId) (x : Watch) : (s.setWatch w x).queues = s.queues := rfl
@[simp] theorem setWatch_lines (w : WatchId) (x : Watch) : (s.setWatch w x).lines = s.lines := rfl
@[simp] theorem setWatch_sample (w : WatchId) (x : Watch) : (s.setWatch w x).sample = s.sample := rfl
@[simp] theorem setWatch_hubTime (w : WatchId) (x : Watch) : (s.setWatch w x).hubTime = s.hubTime := rfl
@[simp] theorem setWatch_epoch (w : WatchId) (x : Watch) : (s.setWatch w x).epoch = s.epoch := rfl
@[simp] theorem setWatch_countOwed (w : WatchId) (x : Watch) : (s.setWatch w x).countOwed = s.countOwed := rfl
@[simp] theorem setWatch_watches (w : WatchId) (x : Watch) : (s.setWatch w x).watches = s.watches.set w.val x := rfl
@[simp] theorem setWatch_outputs (w : WatchId) (x : Watch) : (s.setWatch w x).outputs = s.outputs := rfl
@[simp] theorem setWatch_sessions (w : WatchId) (x : Watch) : (s.setWatch w x).sessions = s.sessions := rfl
@[simp] theorem setWatch_resetCause (w : WatchId) (x : Watch) : (s.setWatch w x).resetCause = s.resetCause := rfl
@[simp] theorem setWatch_attention (w : WatchId) (x : Watch) : (s.setWatch w x).attention = s.attention := rfl
@[simp] theorem setWatch_ports (w : WatchId) (x : Watch) : (s.setWatch w x).ports = s.ports := rfl
@[simp] theorem setWatch_draws (w : WatchId) (x : Watch) : (s.setWatch w x).draws = s.draws := rfl
@[simp] theorem setWatch_pending (w : WatchId) (x : Watch) : (s.setWatch w x).pending = s.pending := rfl

/-! ### setOutput -/

@[simp] theorem setOutput_slots (o : OutputId) (x : Output) : (s.setOutput o x).slots = s.slots := rfl
@[simp] theorem setOutput_nextSeq (o : OutputId) (x : Output) : (s.setOutput o x).nextSeq = s.nextSeq := rfl
@[simp] theorem setOutput_exhaustion (o : OutputId) (x : Output) : (s.setOutput o x).exhaustion = s.exhaustion := rfl
@[simp] theorem setOutput_subscriptions (o : OutputId) (x : Output) : (s.setOutput o x).subscriptions = s.subscriptions := rfl
@[simp] theorem setOutput_queues (o : OutputId) (x : Output) : (s.setOutput o x).queues = s.queues := rfl
@[simp] theorem setOutput_lines (o : OutputId) (x : Output) : (s.setOutput o x).lines = s.lines := rfl
@[simp] theorem setOutput_sample (o : OutputId) (x : Output) : (s.setOutput o x).sample = s.sample := rfl
@[simp] theorem setOutput_hubTime (o : OutputId) (x : Output) : (s.setOutput o x).hubTime = s.hubTime := rfl
@[simp] theorem setOutput_epoch (o : OutputId) (x : Output) : (s.setOutput o x).epoch = s.epoch := rfl
@[simp] theorem setOutput_countOwed (o : OutputId) (x : Output) : (s.setOutput o x).countOwed = s.countOwed := rfl
@[simp] theorem setOutput_watches (o : OutputId) (x : Output) : (s.setOutput o x).watches = s.watches := rfl
@[simp] theorem setOutput_outputs (o : OutputId) (x : Output) : (s.setOutput o x).outputs = s.outputs.set o.val x := rfl
@[simp] theorem setOutput_sessions (o : OutputId) (x : Output) : (s.setOutput o x).sessions = s.sessions := rfl
@[simp] theorem setOutput_resetCause (o : OutputId) (x : Output) : (s.setOutput o x).resetCause = s.resetCause := rfl
@[simp] theorem setOutput_attention (o : OutputId) (x : Output) : (s.setOutput o x).attention = s.attention := rfl
@[simp] theorem setOutput_ports (o : OutputId) (x : Output) : (s.setOutput o x).ports = s.ports := rfl
@[simp] theorem setOutput_draws (o : OutputId) (x : Output) : (s.setOutput o x).draws = s.draws := rfl
@[simp] theorem setOutput_pending (o : OutputId) (x : Output) : (s.setOutput o x).pending = s.pending := rfl

/-! ### setSession -/

@[simp] theorem setSession_slots (h : HostId) (x : Session) : (s.setSession h x).slots = s.slots := rfl
@[simp] theorem setSession_nextSeq (h : HostId) (x : Session) : (s.setSession h x).nextSeq = s.nextSeq := rfl
@[simp] theorem setSession_exhaustion (h : HostId) (x : Session) : (s.setSession h x).exhaustion = s.exhaustion := rfl
@[simp] theorem setSession_subscriptions (h : HostId) (x : Session) : (s.setSession h x).subscriptions = s.subscriptions := rfl
@[simp] theorem setSession_queues (h : HostId) (x : Session) : (s.setSession h x).queues = s.queues := rfl
@[simp] theorem setSession_lines (h : HostId) (x : Session) : (s.setSession h x).lines = s.lines := rfl
@[simp] theorem setSession_sample (h : HostId) (x : Session) : (s.setSession h x).sample = s.sample := rfl
@[simp] theorem setSession_hubTime (h : HostId) (x : Session) : (s.setSession h x).hubTime = s.hubTime := rfl
@[simp] theorem setSession_epoch (h : HostId) (x : Session) : (s.setSession h x).epoch = s.epoch := rfl
@[simp] theorem setSession_countOwed (h : HostId) (x : Session) : (s.setSession h x).countOwed = s.countOwed := rfl
@[simp] theorem setSession_watches (h : HostId) (x : Session) : (s.setSession h x).watches = s.watches := rfl
@[simp] theorem setSession_outputs (h : HostId) (x : Session) : (s.setSession h x).outputs = s.outputs := rfl
@[simp] theorem setSession_sessions (h : HostId) (x : Session) : (s.setSession h x).sessions = s.sessions.set h.val x := rfl
@[simp] theorem setSession_resetCause (h : HostId) (x : Session) : (s.setSession h x).resetCause = s.resetCause := rfl
@[simp] theorem setSession_attention (h : HostId) (x : Session) : (s.setSession h x).attention = s.attention := rfl
@[simp] theorem setSession_ports (h : HostId) (x : Session) : (s.setSession h x).ports = s.ports := rfl
@[simp] theorem setSession_draws (h : HostId) (x : Session) : (s.setSession h x).draws = s.draws := rfl
@[simp] theorem setSession_pending (h : HostId) (x : Session) : (s.setSession h x).pending = s.pending := rfl

/-! ### setAttention -/

@[simp] theorem setAttention_slots (h : HostId) (x : Attention) : (s.setAttention h x).slots = s.slots := rfl
@[simp] theorem setAttention_nextSeq (h : HostId) (x : Attention) : (s.setAttention h x).nextSeq = s.nextSeq := rfl
@[simp] theorem setAttention_exhaustion (h : HostId) (x : Attention) : (s.setAttention h x).exhaustion = s.exhaustion := rfl
@[simp] theorem setAttention_subscriptions (h : HostId) (x : Attention) : (s.setAttention h x).subscriptions = s.subscriptions := rfl
@[simp] theorem setAttention_queues (h : HostId) (x : Attention) : (s.setAttention h x).queues = s.queues := rfl
@[simp] theorem setAttention_lines (h : HostId) (x : Attention) : (s.setAttention h x).lines = s.lines := rfl
@[simp] theorem setAttention_sample (h : HostId) (x : Attention) : (s.setAttention h x).sample = s.sample := rfl
@[simp] theorem setAttention_hubTime (h : HostId) (x : Attention) : (s.setAttention h x).hubTime = s.hubTime := rfl
@[simp] theorem setAttention_epoch (h : HostId) (x : Attention) : (s.setAttention h x).epoch = s.epoch := rfl
@[simp] theorem setAttention_countOwed (h : HostId) (x : Attention) : (s.setAttention h x).countOwed = s.countOwed := rfl
@[simp] theorem setAttention_watches (h : HostId) (x : Attention) : (s.setAttention h x).watches = s.watches := rfl
@[simp] theorem setAttention_outputs (h : HostId) (x : Attention) : (s.setAttention h x).outputs = s.outputs := rfl
@[simp] theorem setAttention_sessions (h : HostId) (x : Attention) : (s.setAttention h x).sessions = s.sessions := rfl
@[simp] theorem setAttention_resetCause (h : HostId) (x : Attention) : (s.setAttention h x).resetCause = s.resetCause := rfl
@[simp] theorem setAttention_attention (h : HostId) (x : Attention) : (s.setAttention h x).attention = s.attention.set h.val x := rfl
@[simp] theorem setAttention_ports (h : HostId) (x : Attention) : (s.setAttention h x).ports = s.ports := rfl
@[simp] theorem setAttention_draws (h : HostId) (x : Attention) : (s.setAttention h x).draws = s.draws := rfl
@[simp] theorem setAttention_pending (h : HostId) (x : Attention) : (s.setAttention h x).pending = s.pending := rfl

/-! ### setPort -/

@[simp] theorem setPort_slots (h : HostId) (x : Port) : (s.setPort h x).slots = s.slots := rfl
@[simp] theorem setPort_nextSeq (h : HostId) (x : Port) : (s.setPort h x).nextSeq = s.nextSeq := rfl
@[simp] theorem setPort_exhaustion (h : HostId) (x : Port) : (s.setPort h x).exhaustion = s.exhaustion := rfl
@[simp] theorem setPort_subscriptions (h : HostId) (x : Port) : (s.setPort h x).subscriptions = s.subscriptions := rfl
@[simp] theorem setPort_queues (h : HostId) (x : Port) : (s.setPort h x).queues = s.queues := rfl
@[simp] theorem setPort_lines (h : HostId) (x : Port) : (s.setPort h x).lines = s.lines := rfl
@[simp] theorem setPort_sample (h : HostId) (x : Port) : (s.setPort h x).sample = s.sample := rfl
@[simp] theorem setPort_hubTime (h : HostId) (x : Port) : (s.setPort h x).hubTime = s.hubTime := rfl
@[simp] theorem setPort_epoch (h : HostId) (x : Port) : (s.setPort h x).epoch = s.epoch := rfl
@[simp] theorem setPort_countOwed (h : HostId) (x : Port) : (s.setPort h x).countOwed = s.countOwed := rfl
@[simp] theorem setPort_watches (h : HostId) (x : Port) : (s.setPort h x).watches = s.watches := rfl
@[simp] theorem setPort_outputs (h : HostId) (x : Port) : (s.setPort h x).outputs = s.outputs := rfl
@[simp] theorem setPort_sessions (h : HostId) (x : Port) : (s.setPort h x).sessions = s.sessions := rfl
@[simp] theorem setPort_resetCause (h : HostId) (x : Port) : (s.setPort h x).resetCause = s.resetCause := rfl
@[simp] theorem setPort_attention (h : HostId) (x : Port) : (s.setPort h x).attention = s.attention := rfl
@[simp] theorem setPort_ports (h : HostId) (x : Port) : (s.setPort h x).ports = s.ports.set h.val x := rfl
@[simp] theorem setPort_draws (h : HostId) (x : Port) : (s.setPort h x).draws = s.draws := rfl
@[simp] theorem setPort_pending (h : HostId) (x : Port) : (s.setPort h x).pending = s.pending := rfl

/-! ### chargeMisses -/

@[simp] theorem chargeMisses_slots (hs : HostSet) : (s.chargeMisses hs).slots = s.slots := rfl
@[simp] theorem chargeMisses_nextSeq (hs : HostSet) : (s.chargeMisses hs).nextSeq = s.nextSeq := rfl
@[simp] theorem chargeMisses_exhaustion (hs : HostSet) : (s.chargeMisses hs).exhaustion = s.exhaustion := rfl
@[simp] theorem chargeMisses_subscriptions (hs : HostSet) : (s.chargeMisses hs).subscriptions = s.subscriptions := rfl
@[simp] theorem chargeMisses_lines (hs : HostSet) : (s.chargeMisses hs).lines = s.lines := rfl
@[simp] theorem chargeMisses_sample (hs : HostSet) : (s.chargeMisses hs).sample = s.sample := rfl
@[simp] theorem chargeMisses_hubTime (hs : HostSet) : (s.chargeMisses hs).hubTime = s.hubTime := rfl
@[simp] theorem chargeMisses_epoch (hs : HostSet) : (s.chargeMisses hs).epoch = s.epoch := rfl
@[simp] theorem chargeMisses_countOwed (hs : HostSet) : (s.chargeMisses hs).countOwed = s.countOwed := rfl
@[simp] theorem chargeMisses_watches (hs : HostSet) : (s.chargeMisses hs).watches = s.watches := rfl
@[simp] theorem chargeMisses_outputs (hs : HostSet) : (s.chargeMisses hs).outputs = s.outputs := rfl
@[simp] theorem chargeMisses_sessions (hs : HostSet) : (s.chargeMisses hs).sessions = s.sessions := rfl
@[simp] theorem chargeMisses_resetCause (hs : HostSet) : (s.chargeMisses hs).resetCause = s.resetCause := rfl
@[simp] theorem chargeMisses_ports (hs : HostSet) : (s.chargeMisses hs).ports = s.ports := rfl
@[simp] theorem chargeMisses_draws (hs : HostSet) : (s.chargeMisses hs).draws = s.draws := rfl
@[simp] theorem chargeMisses_pending (hs : HostSet) : (s.chargeMisses hs).pending = s.pending := rfl

/-! ### joinQueues -/

@[simp] theorem joinQueues_slots (hs : HostSet) (i : SlotId) : (s.joinQueues hs i).slots = s.slots := rfl
@[simp] theorem joinQueues_nextSeq (hs : HostSet) (i : SlotId) : (s.joinQueues hs i).nextSeq = s.nextSeq := rfl
@[simp] theorem joinQueues_exhaustion (hs : HostSet) (i : SlotId) : (s.joinQueues hs i).exhaustion = s.exhaustion := rfl
@[simp] theorem joinQueues_subscriptions (hs : HostSet) (i : SlotId) : (s.joinQueues hs i).subscriptions = s.subscriptions := rfl
@[simp] theorem joinQueues_lines (hs : HostSet) (i : SlotId) : (s.joinQueues hs i).lines = s.lines := rfl
@[simp] theorem joinQueues_sample (hs : HostSet) (i : SlotId) : (s.joinQueues hs i).sample = s.sample := rfl
@[simp] theorem joinQueues_hubTime (hs : HostSet) (i : SlotId) : (s.joinQueues hs i).hubTime = s.hubTime := rfl
@[simp] theorem joinQueues_epoch (hs : HostSet) (i : SlotId) : (s.joinQueues hs i).epoch = s.epoch := rfl
@[simp] theorem joinQueues_countOwed (hs : HostSet) (i : SlotId) : (s.joinQueues hs i).countOwed = s.countOwed := rfl
@[simp] theorem joinQueues_watches (hs : HostSet) (i : SlotId) : (s.joinQueues hs i).watches = s.watches := rfl
@[simp] theorem joinQueues_outputs (hs : HostSet) (i : SlotId) : (s.joinQueues hs i).outputs = s.outputs := rfl
@[simp] theorem joinQueues_sessions (hs : HostSet) (i : SlotId) : (s.joinQueues hs i).sessions = s.sessions := rfl
@[simp] theorem joinQueues_resetCause (hs : HostSet) (i : SlotId) : (s.joinQueues hs i).resetCause = s.resetCause := rfl
@[simp] theorem joinQueues_ports (hs : HostSet) (i : SlotId) : (s.joinQueues hs i).ports = s.ports := rfl
@[simp] theorem joinQueues_draws (hs : HostSet) (i : SlotId) : (s.joinQueues hs i).draws = s.draws := rfl
@[simp] theorem joinQueues_pending (hs : HostSet) (i : SlotId) : (s.joinQueues hs i).pending = s.pending := rfl

/-! ### mapOutputs -/

@[simp] theorem mapOutputs_slots (outs : OutputSet) (f : OutputId → Output → Output) : (s.mapOutputs outs f).slots = s.slots := rfl
@[simp] theorem mapOutputs_nextSeq (outs : OutputSet) (f : OutputId → Output → Output) : (s.mapOutputs outs f).nextSeq = s.nextSeq := rfl
@[simp] theorem mapOutputs_exhaustion (outs : OutputSet) (f : OutputId → Output → Output) : (s.mapOutputs outs f).exhaustion = s.exhaustion := rfl
@[simp] theorem mapOutputs_subscriptions (outs : OutputSet) (f : OutputId → Output → Output) : (s.mapOutputs outs f).subscriptions = s.subscriptions := rfl
@[simp] theorem mapOutputs_queues (outs : OutputSet) (f : OutputId → Output → Output) : (s.mapOutputs outs f).queues = s.queues := rfl
@[simp] theorem mapOutputs_lines (outs : OutputSet) (f : OutputId → Output → Output) : (s.mapOutputs outs f).lines = s.lines := rfl
@[simp] theorem mapOutputs_sample (outs : OutputSet) (f : OutputId → Output → Output) : (s.mapOutputs outs f).sample = s.sample := rfl
@[simp] theorem mapOutputs_hubTime (outs : OutputSet) (f : OutputId → Output → Output) : (s.mapOutputs outs f).hubTime = s.hubTime := rfl
@[simp] theorem mapOutputs_epoch (outs : OutputSet) (f : OutputId → Output → Output) : (s.mapOutputs outs f).epoch = s.epoch := rfl
@[simp] theorem mapOutputs_countOwed (outs : OutputSet) (f : OutputId → Output → Output) : (s.mapOutputs outs f).countOwed = s.countOwed := rfl
@[simp] theorem mapOutputs_watches (outs : OutputSet) (f : OutputId → Output → Output) : (s.mapOutputs outs f).watches = s.watches := rfl
@[simp] theorem mapOutputs_sessions (outs : OutputSet) (f : OutputId → Output → Output) : (s.mapOutputs outs f).sessions = s.sessions := rfl
@[simp] theorem mapOutputs_resetCause (outs : OutputSet) (f : OutputId → Output → Output) : (s.mapOutputs outs f).resetCause = s.resetCause := rfl
@[simp] theorem mapOutputs_attention (outs : OutputSet) (f : OutputId → Output → Output) : (s.mapOutputs outs f).attention = s.attention := rfl
@[simp] theorem mapOutputs_ports (outs : OutputSet) (f : OutputId → Output → Output) : (s.mapOutputs outs f).ports = s.ports := rfl
@[simp] theorem mapOutputs_draws (outs : OutputSet) (f : OutputId → Output → Output) : (s.mapOutputs outs f).draws = s.draws := rfl
@[simp] theorem mapOutputs_pending (outs : OutputSet) (f : OutputId → Output → Output) : (s.mapOutputs outs f).pending = s.pending := rfl

/-! ### mapLines -/

@[simp] theorem mapLines_slots (named : LineSet) (f : Line → Line) : (s.mapLines named f).slots = s.slots := rfl
@[simp] theorem mapLines_nextSeq (named : LineSet) (f : Line → Line) : (s.mapLines named f).nextSeq = s.nextSeq := rfl
@[simp] theorem mapLines_exhaustion (named : LineSet) (f : Line → Line) : (s.mapLines named f).exhaustion = s.exhaustion := rfl
@[simp] theorem mapLines_subscriptions (named : LineSet) (f : Line → Line) : (s.mapLines named f).subscriptions = s.subscriptions := rfl
@[simp] theorem mapLines_queues (named : LineSet) (f : Line → Line) : (s.mapLines named f).queues = s.queues := rfl
@[simp] theorem mapLines_sample (named : LineSet) (f : Line → Line) : (s.mapLines named f).sample = s.sample := rfl
@[simp] theorem mapLines_hubTime (named : LineSet) (f : Line → Line) : (s.mapLines named f).hubTime = s.hubTime := rfl
@[simp] theorem mapLines_epoch (named : LineSet) (f : Line → Line) : (s.mapLines named f).epoch = s.epoch := rfl
@[simp] theorem mapLines_countOwed (named : LineSet) (f : Line → Line) : (s.mapLines named f).countOwed = s.countOwed := rfl
@[simp] theorem mapLines_watches (named : LineSet) (f : Line → Line) : (s.mapLines named f).watches = s.watches := rfl
@[simp] theorem mapLines_outputs (named : LineSet) (f : Line → Line) : (s.mapLines named f).outputs = s.outputs := rfl
@[simp] theorem mapLines_sessions (named : LineSet) (f : Line → Line) : (s.mapLines named f).sessions = s.sessions := rfl
@[simp] theorem mapLines_resetCause (named : LineSet) (f : Line → Line) : (s.mapLines named f).resetCause = s.resetCause := rfl
@[simp] theorem mapLines_attention (named : LineSet) (f : Line → Line) : (s.mapLines named f).attention = s.attention := rfl
@[simp] theorem mapLines_ports (named : LineSet) (f : Line → Line) : (s.mapLines named f).ports = s.ports := rfl
@[simp] theorem mapLines_draws (named : LineSet) (f : Line → Line) : (s.mapLines named f).draws = s.draws := rfl
@[simp] theorem mapLines_pending (named : LineSet) (f : Line → Line) : (s.mapLines named f).pending = s.pending := rfl

/-! ### fireReflexes -/

@[simp] theorem fireReflexes_slots (l : LineId) (k : EdgeKind) : (s.fireReflexes l k).slots = s.slots := rfl
@[simp] theorem fireReflexes_nextSeq (l : LineId) (k : EdgeKind) : (s.fireReflexes l k).nextSeq = s.nextSeq := rfl
@[simp] theorem fireReflexes_exhaustion (l : LineId) (k : EdgeKind) : (s.fireReflexes l k).exhaustion = s.exhaustion := rfl
@[simp] theorem fireReflexes_subscriptions (l : LineId) (k : EdgeKind) : (s.fireReflexes l k).subscriptions = s.subscriptions := rfl
@[simp] theorem fireReflexes_queues (l : LineId) (k : EdgeKind) : (s.fireReflexes l k).queues = s.queues := rfl
@[simp] theorem fireReflexes_lines (l : LineId) (k : EdgeKind) : (s.fireReflexes l k).lines = s.lines := rfl
@[simp] theorem fireReflexes_sample (l : LineId) (k : EdgeKind) : (s.fireReflexes l k).sample = s.sample := rfl
@[simp] theorem fireReflexes_hubTime (l : LineId) (k : EdgeKind) : (s.fireReflexes l k).hubTime = s.hubTime := rfl
@[simp] theorem fireReflexes_epoch (l : LineId) (k : EdgeKind) : (s.fireReflexes l k).epoch = s.epoch := rfl
@[simp] theorem fireReflexes_countOwed (l : LineId) (k : EdgeKind) : (s.fireReflexes l k).countOwed = s.countOwed := rfl
@[simp] theorem fireReflexes_watches (l : LineId) (k : EdgeKind) : (s.fireReflexes l k).watches = s.watches := rfl
@[simp] theorem fireReflexes_sessions (l : LineId) (k : EdgeKind) : (s.fireReflexes l k).sessions = s.sessions := rfl
@[simp] theorem fireReflexes_resetCause (l : LineId) (k : EdgeKind) : (s.fireReflexes l k).resetCause = s.resetCause := rfl
@[simp] theorem fireReflexes_attention (l : LineId) (k : EdgeKind) : (s.fireReflexes l k).attention = s.attention := rfl
@[simp] theorem fireReflexes_ports (l : LineId) (k : EdgeKind) : (s.fireReflexes l k).ports = s.ports := rfl
@[simp] theorem fireReflexes_draws (l : LineId) (k : EdgeKind) : (s.fireReflexes l k).draws = s.draws := rfl
@[simp] theorem fireReflexes_pending (l : LineId) (k : EdgeKind) : (s.fireReflexes l k).pending = s.pending := rfl

/-! ### postSeized -/

@[simp] theorem postSeized_slots (h : HostId) (outs : OutputSet) : (s.postSeized h outs).slots = s.slots := rfl
@[simp] theorem postSeized_nextSeq (h : HostId) (outs : OutputSet) : (s.postSeized h outs).nextSeq = s.nextSeq := rfl
@[simp] theorem postSeized_exhaustion (h : HostId) (outs : OutputSet) : (s.postSeized h outs).exhaustion = s.exhaustion := rfl
@[simp] theorem postSeized_subscriptions (h : HostId) (outs : OutputSet) : (s.postSeized h outs).subscriptions = s.subscriptions := rfl
@[simp] theorem postSeized_queues (h : HostId) (outs : OutputSet) : (s.postSeized h outs).queues = s.queues := rfl
@[simp] theorem postSeized_lines (h : HostId) (outs : OutputSet) : (s.postSeized h outs).lines = s.lines := rfl
@[simp] theorem postSeized_sample (h : HostId) (outs : OutputSet) : (s.postSeized h outs).sample = s.sample := rfl
@[simp] theorem postSeized_hubTime (h : HostId) (outs : OutputSet) : (s.postSeized h outs).hubTime = s.hubTime := rfl
@[simp] theorem postSeized_epoch (h : HostId) (outs : OutputSet) : (s.postSeized h outs).epoch = s.epoch := rfl
@[simp] theorem postSeized_countOwed (h : HostId) (outs : OutputSet) : (s.postSeized h outs).countOwed = s.countOwed := rfl
@[simp] theorem postSeized_watches (h : HostId) (outs : OutputSet) : (s.postSeized h outs).watches = s.watches := rfl
@[simp] theorem postSeized_outputs (h : HostId) (outs : OutputSet) : (s.postSeized h outs).outputs = s.outputs := rfl
@[simp] theorem postSeized_sessions (h : HostId) (outs : OutputSet) : (s.postSeized h outs).sessions = s.sessions := rfl
@[simp] theorem postSeized_resetCause (h : HostId) (outs : OutputSet) : (s.postSeized h outs).resetCause = s.resetCause := rfl
@[simp] theorem postSeized_ports (h : HostId) (outs : OutputSet) : (s.postSeized h outs).ports = s.ports := rfl
@[simp] theorem postSeized_draws (h : HostId) (outs : OutputSet) : (s.postSeized h outs).draws = s.draws := rfl
@[simp] theorem postSeized_pending (h : HostId) (outs : OutputSet) : (s.postSeized h outs).pending = s.pending := rfl

/-! ### answered -/

@[simp] theorem answered_slots (h : HostId) (r : Response) : (s.answered h r).slots = s.slots := rfl
@[simp] theorem answered_nextSeq (h : HostId) (r : Response) : (s.answered h r).nextSeq = s.nextSeq := rfl
@[simp] theorem answered_exhaustion (h : HostId) (r : Response) : (s.answered h r).exhaustion = s.exhaustion := rfl
@[simp] theorem answered_subscriptions (h : HostId) (r : Response) : (s.answered h r).subscriptions = s.subscriptions := rfl
@[simp] theorem answered_queues (h : HostId) (r : Response) : (s.answered h r).queues = s.queues := rfl
@[simp] theorem answered_lines (h : HostId) (r : Response) : (s.answered h r).lines = s.lines := rfl
@[simp] theorem answered_sample (h : HostId) (r : Response) : (s.answered h r).sample = s.sample := rfl
@[simp] theorem answered_hubTime (h : HostId) (r : Response) : (s.answered h r).hubTime = s.hubTime := rfl
@[simp] theorem answered_epoch (h : HostId) (r : Response) : (s.answered h r).epoch = s.epoch := rfl
@[simp] theorem answered_countOwed (h : HostId) (r : Response) : (s.answered h r).countOwed = s.countOwed := rfl
@[simp] theorem answered_watches (h : HostId) (r : Response) : (s.answered h r).watches = s.watches := rfl
@[simp] theorem answered_outputs (h : HostId) (r : Response) : (s.answered h r).outputs = s.outputs := rfl
@[simp] theorem answered_sessions (h : HostId) (r : Response) : (s.answered h r).sessions = s.sessions := rfl
@[simp] theorem answered_resetCause (h : HostId) (r : Response) : (s.answered h r).resetCause = s.resetCause := rfl
@[simp] theorem answered_attention (h : HostId) (r : Response) : (s.answered h r).attention = s.attention := rfl
@[simp] theorem answered_draws (h : HostId) (r : Response) : (s.answered h r).draws = s.draws := rfl
@[simp] theorem answered_pending (h : HostId) (r : Response) : (s.answered h r).pending = s.pending := rfl

/-! ### handTick -/

@[simp] theorem handTick_slots (levels : LineSet) : (s.handTick levels).slots = s.slots := rfl
@[simp] theorem handTick_nextSeq (levels : LineSet) : (s.handTick levels).nextSeq = s.nextSeq := rfl
@[simp] theorem handTick_exhaustion (levels : LineSet) : (s.handTick levels).exhaustion = s.exhaustion := rfl
@[simp] theorem handTick_subscriptions (levels : LineSet) : (s.handTick levels).subscriptions = s.subscriptions := rfl
@[simp] theorem handTick_queues (levels : LineSet) : (s.handTick levels).queues = s.queues := rfl
@[simp] theorem handTick_hubTime (levels : LineSet) : (s.handTick levels).hubTime = s.hubTime := rfl
@[simp] theorem handTick_epoch (levels : LineSet) : (s.handTick levels).epoch = s.epoch := rfl
@[simp] theorem handTick_countOwed (levels : LineSet) : (s.handTick levels).countOwed = s.countOwed := rfl
@[simp] theorem handTick_resetCause (levels : LineSet) : (s.handTick levels).resetCause = s.resetCause := rfl
@[simp] theorem handTick_attention (levels : LineSet) : (s.handTick levels).attention = s.attention := rfl
@[simp] theorem handTick_draws (levels : LineSet) : (s.handTick levels).draws = s.draws := rfl
@[simp] theorem handTick_pending (levels : LineSet) : (s.handTick levels).pending = s.pending := rfl

/-! ### handOut and count -/

@[simp] theorem handOut_slots (levels : LineSet) : (s.handOut levels).slots = s.slots := rfl
@[simp] theorem handOut_nextSeq (levels : LineSet) : (s.handOut levels).nextSeq = s.nextSeq := rfl
@[simp] theorem handOut_exhaustion (levels : LineSet) : (s.handOut levels).exhaustion = s.exhaustion := rfl
@[simp] theorem handOut_subscriptions (levels : LineSet) : (s.handOut levels).subscriptions = s.subscriptions := rfl
@[simp] theorem handOut_queues (levels : LineSet) : (s.handOut levels).queues = s.queues := rfl
@[simp] theorem handOut_lines (levels : LineSet) : (s.handOut levels).lines = (s.handTick levels).lines := rfl
@[simp] theorem handOut_sample (levels : LineSet) : (s.handOut levels).sample = (s.handTick levels).sample := rfl
@[simp] theorem handOut_hubTime (levels : LineSet) : (s.handOut levels).hubTime = s.hubTime := rfl
@[simp] theorem handOut_epoch (levels : LineSet) : (s.handOut levels).epoch = s.epoch := rfl
@[simp] theorem handOut_countOwed (levels : LineSet) : (s.handOut levels).countOwed = true := rfl
@[simp] theorem handOut_watches (levels : LineSet) : (s.handOut levels).watches = (s.handTick levels).watches := rfl
@[simp] theorem handOut_outputs (levels : LineSet) : (s.handOut levels).outputs = (s.handTick levels).outputs := rfl
@[simp] theorem handOut_sessions (levels : LineSet) : (s.handOut levels).sessions = (s.handTick levels).sessions := rfl
@[simp] theorem handOut_resetCause (levels : LineSet) : (s.handOut levels).resetCause = s.resetCause := rfl
@[simp] theorem handOut_attention (levels : LineSet) : (s.handOut levels).attention = s.attention := rfl
@[simp] theorem handOut_ports (levels : LineSet) : (s.handOut levels).ports = (s.handTick levels).ports := rfl
@[simp] theorem handOut_draws (levels : LineSet) : (s.handOut levels).draws = s.draws := rfl
@[simp] theorem handOut_pending (levels : LineSet) : (s.handOut levels).pending = s.pending := rfl
@[simp] theorem count_slots : s.count.slots = s.slots := rfl
@[simp] theorem count_nextSeq : s.count.nextSeq = s.nextSeq := rfl
@[simp] theorem count_exhaustion : s.count.exhaustion = s.exhaustion := rfl
@[simp] theorem count_subscriptions : s.count.subscriptions = s.subscriptions := rfl
@[simp] theorem count_queues : s.count.queues = s.queues := rfl
@[simp] theorem count_lines : s.count.lines = s.lines := rfl
@[simp] theorem count_sample : s.count.sample = s.sample := rfl
@[simp] theorem count_hubTime : s.count.hubTime = s.hubTime + 1#32 := rfl
@[simp] theorem count_epoch : s.count.epoch = s.epoch := rfl
@[simp] theorem count_countOwed : s.count.countOwed = false := rfl
@[simp] theorem count_watches : s.count.watches = s.watches := rfl
@[simp] theorem count_outputs : s.count.outputs = s.outputs := rfl
@[simp] theorem count_sessions : s.count.sessions = s.sessions := rfl
@[simp] theorem count_resetCause : s.count.resetCause = s.resetCause := rfl
@[simp] theorem count_attention : s.count.attention = s.attention := rfl
@[simp] theorem count_ports : s.count.ports = s.ports := rfl
@[simp] theorem count_draws : s.count.draws = s.draws := rfl
@[simp] theorem count_pending : s.count.pending = s.pending := rfl

/-! ### restarted -/

@[simp] theorem restarted_slots (h : HostId) : (s.restarted h).slots = s.slots := by
  simp only [State.restarted]; split <;> rfl
@[simp] theorem restarted_nextSeq (h : HostId) : (s.restarted h).nextSeq = s.nextSeq := by
  simp only [State.restarted]; split <;> rfl
@[simp] theorem restarted_exhaustion (h : HostId) : (s.restarted h).exhaustion = s.exhaustion := by
  simp only [State.restarted]; split <;> rfl
@[simp] theorem restarted_subscriptions (h : HostId) : (s.restarted h).subscriptions = s.subscriptions := by
  simp only [State.restarted]; split <;> rfl
@[simp] theorem restarted_queues (h : HostId) : (s.restarted h).queues = s.queues := by
  simp only [State.restarted]; split <;> rfl
@[simp] theorem restarted_lines (h : HostId) : (s.restarted h).lines = s.lines := by
  simp only [State.restarted]; split <;> rfl
@[simp] theorem restarted_sample (h : HostId) : (s.restarted h).sample = s.sample := by
  simp only [State.restarted]; split <;> rfl
@[simp] theorem restarted_hubTime (h : HostId) : (s.restarted h).hubTime = s.hubTime := by
  simp only [State.restarted]; split <;> rfl
@[simp] theorem restarted_epoch (h : HostId) : (s.restarted h).epoch = s.epoch := by
  simp only [State.restarted]; split <;> rfl
@[simp] theorem restarted_countOwed (h : HostId) : (s.restarted h).countOwed = s.countOwed := by
  simp only [State.restarted]; split <;> rfl
@[simp] theorem restarted_watches (h : HostId) : (s.restarted h).watches = s.watches := by
  simp only [State.restarted]; split <;> rfl
@[simp] theorem restarted_outputs (h : HostId) : (s.restarted h).outputs = s.outputs := by
  simp only [State.restarted]; split <;> rfl
@[simp] theorem restarted_resetCause (h : HostId) : (s.restarted h).resetCause = s.resetCause := by
  simp only [State.restarted]; split <;> rfl
@[simp] theorem restarted_attention (h : HostId) : (s.restarted h).attention = s.attention := by
  simp only [State.restarted]; split <;> rfl
@[simp] theorem restarted_ports (h : HostId) : (s.restarted h).ports = s.ports := by
  simp only [State.restarted]; split <;> rfl
@[simp] theorem restarted_draws (h : HostId) : (s.restarted h).draws = s.draws := by
  simp only [State.restarted]; split <;> rfl
@[simp] theorem restarted_pending (h : HostId) : (s.restarted h).pending = s.pending := by
  simp only [State.restarted]; split <;> rfl

/-- A restart of the timer leaves every other item of every session. -/
theorem restarted_session (h g : HostId) :
    ∃ t, (s.restarted h).sessions[g] = { s.sessions[g] with timer := t } := by
  simp only [State.restarted]
  split
  · by_cases e : g = h
    · subst e; exact ⟨_, Vector.getElem_set_self ..⟩
    · have : h.val ≠ g.val := fun x => e (Fin.ext x.symm)
      exact ⟨s.sessions[g].timer, by simp [this]⟩
  · exact ⟨_, rfl⟩

@[simp] theorem restarted_session_state (h g : HostId) :
    (s.restarted h).sessions[g.val].state = s.sessions[g.val].state := by
  obtain ⟨t, e⟩ := restarted_session s h g; exact e ▸ rfl
@[simp] theorem restarted_session_privilege (h g : HostId) :
    (s.restarted h).sessions[g.val].privilege = s.sessions[g.val].privilege := by
  obtain ⟨t, e⟩ := restarted_session s h g; exact e ▸ rfl
@[simp] theorem restarted_session_period (h g : HostId) :
    (s.restarted h).sessions[g.val].period = s.sessions[g.val].period := by
  obtain ⟨t, e⟩ := restarted_session s h g; exact e ▸ rfl
@[simp] theorem restarted_session_number (h g : HostId) :
    (s.restarted h).sessions[g.val].number = s.sessions[g.val].number := by
  obtain ⟨t, e⟩ := restarted_session s h g; exact e ▸ rfl
@[simp] theorem restarted_session_notice (h g : HostId) :
    (s.restarted h).sessions[g.val].notice = s.sessions[g.val].notice := by
  obtain ⟨t, e⟩ := restarted_session s h g; exact e ▸ rfl
@[simp] theorem restarted_session_loss (h g : HostId) :
    (s.restarted h).sessions[g.val].loss = s.sessions[g.val].loss := by
  obtain ⟨t, e⟩ := restarted_session s h g; exact e ▸ rfl

end Sys2Proof.Machine
end

