-- ==== Sys2Proof/Laws/Taking.lean ====
section
/-!
SUPPORT. The taking of a request, said once: what a request row answers is what its command makes of the
state with the timer restarted (R180). The provers cite request_answers and need not unfold the taking.
-/

namespace Sys2Proof.Machine

theorem restartTimer_eq (s : State) (h : HostId) : s.restartTimer h = s.restarted h := by
  simp only [State.restartTimer, State.restarted, State.isAttached, beq_iff_eq, State.setSession,
    fullTimer, Countdown.start]

/-- A response stored and begun is the port's answer (R180, R184). -/
theorem startAnswer_storeResponse (s : State) (h : HostId) (r : Response) :
    (s.storeResponse h r).startAnswer h r = s.answered h r := by
  simp [State.startAnswer, State.storeResponse, State.answered, State.setPort, Vector.set_set]

/-- What the taking of a request does (R180). -/
theorem take_eq (s : State) (h : HostId) (tag : Byte) (payload : List Byte)
    (command : Request → State → Reply) :
    let reply := command ⟨h, s.hubTime, payload⟩ (s.restarted h)
    s.take h tag payload command =
      reply.state.answered h ⟨reply.status, tag, s.hubTime, reply.payload⟩ := by
  simp only [State.take, restartTimer_eq, startAnswer_storeResponse]

/-- A request row whose port awaits its CRC byte answers what its command makes of the request. -/
theorem request_answers {i : Instr} {f : RequestFrame} {s : State}
    {command : Request → State → Reply} (hf : i.frame? = some f)
    (he : exec i s = takeRow f.code command f.host f.tag f.payload s) (ha : s.awaits i = true) :
    let reply := command ⟨f.host, s.hubTime, f.payload⟩ (s.restarted f.host)
    Answers i s reply.state reply.status reply.payload := by
  have awaits : s.ports[f.host].awaitsCrc f.code f.tag f.payload = true := by
    simpa [State.awaits, hf] using ha
  simp only [Answers, hf, he, takeRow, awaits, if_true, take_eq]

/-- A request row whose port does not await its CRC byte cannot come. -/
theorem takeRow_refused {s : State} {h : HostId} {code tag : Byte} {payload : List Byte}
    {command : Request → State → Reply} (ha : s.ports[h].awaitsCrc code tag payload = false) :
    takeRow code command h tag payload s = .refused .frameNotReceived := by
  simp only [takeRow, ha, Bool.false_eq_true, if_false]

/-- The session stage lets an ATTACHED caller through (R140). -/
theorem ifAttached_attached {rq : Request} {s : State} {k : Reply}
    (h : s.isAttached rq.host = true) : ifAttached rq s k = k := by
  have : s.sessions[rq.host].state = .attached := by simpa [State.isAttached] using h
  simp only [ifAttached, this]

@[simp] theorem restarted_isAttached (s : State) (h g : HostId) :
    (s.restarted h).isAttached g = s.isAttached g := by
  simp [State.isAttached]

@[simp] theorem restarted_isSupervisor (s : State) (h g : HostId) :
    (s.restarted h).isSupervisor g = s.isSupervisor g := by
  simp [State.isSupervisor]

@[simp] theorem restarted_attachedSet (s : State) (h : HostId) :
    (s.restarted h).attachedSet = s.attachedSet := by
  exact congrArg setOf (funext fun g => restarted_isAttached s h g)

/-! ### Sets -/

@[simp] theorem holds_setOf {n : Nat} (p : Fin n → Bool) (i : Fin n) : holds (setOf p) i = p i := by
  simp [holds, setOf]

@[simp] theorem holds_single {n : Nat} (i j : Fin n) : holds (single i) j = (j == i) := by
  simp [single]

@[simp] theorem holds_without {n : Nat} (s : BitVec n) (i j : Fin n) :
    holds (without s i) j = (holds s j && j != i) := by
  have single_bit : (single i).getLsbD j.val = (j == i) := holds_single i j
  simp only [holds, without, BitVec.getLsbD_and, BitVec.getLsbD_not, single_bit, j.isLt, decide_true,
    Bool.true_and, bne]

@[simp] theorem holds_and {n : Nat} (s t : BitVec n) (i : Fin n) :
    holds (s &&& t) i = (holds s i && holds t i) := by simp [holds]

@[simp] theorem holds_or {n : Nat} (s t : BitVec n) (i : Fin n) :
    holds (s ||| t) i = (holds s i || holds t i) := by simp [holds]

@[simp] theorem holds_not {n : Nat} (s : BitVec n) (i : Fin n) :
    holds (~~~s) i = !holds s i := by simp [holds, i.isLt]

@[simp] theorem holds_zero {n : Nat} (i : Fin n) : holds (0#n) i = false := by simp [holds]

/-- Sets with the same members are equal. -/
theorem set_ext {n : Nat} {s t : BitVec n} (h : ∀ i : Fin n, holds s i = holds t i) : s = t := by
  apply BitVec.eq_of_getLsbD_eq
  intro i hi
  exact h ⟨i, hi⟩

/-- A set is empty when it has no member. -/
theorem set_eq_zero {n : Nat} {s : BitVec n} : s = 0#n ↔ ∀ i : Fin n, holds s i = false :=
  ⟨fun h i => by simp [h], fun h => set_ext fun i => by simp [h]⟩

@[simp] theorem mem_members {n : Nat} (s : BitVec n) (i : Fin n) : i ∈ members s ↔ holds s i = true := by
  simp [members]

end Sys2Proof.Machine
end

