-- ==== Sys2Proof/Laws/Folds.lean ====
section
/-!
SUPPORT. Fold references and fold targets: the fold law in a form that rewrites, and what giving up or
dropping a fold reference does to every slot and every line (R3, R19, R23, R24, R72).
-/

namespace Sys2Proof.Machine

variable {s : State}

@[simp] theorem setFoldRef_foldRef (x : Line) (k : EdgeKind) (ref : Option SlotId) :
    (x.setFoldRef k ref).foldRef k = ref := by cases k <;> rfl

theorem setFoldRef_foldRef_other (x : Line) (ref : Option SlotId) {k k' : EdgeKind} (h : k' ≠ k) :
    (x.setFoldRef k ref).foldRef k' = x.foldRef k' := by
  cases k <;> cases k' <;> first | rfl | exact absurd rfl h

theorem setFoldRef_absent {x : Line} {k : EdgeKind} (h : x.foldRef k = none) :
    x.setFoldRef k none = x := by
  cases k <;> (simp only [Line.foldRef] at h; rw [Line.setFoldRef, ← h])

/-- Where a fold reference leads, in a state that keeps the fold law (R3, R71). -/
theorem foldLaw_ref (hF : s.FoldLaw) {l : LineId} {k : EdgeKind} {i : SlotId}
    (h : s.lines[l].foldRef k = some i) :
    ∃ r, s.slots[i] = some r ∧ r.shown = false ∧ r.foldTarget = some (l, k) ∧ r.source = .line l ∧
      r.kind = k.recordKind := by
  obtain ⟨r, found, rest⟩ := hF.1 l k (by cases k <;> simp) i h
  exact ⟨r, found, rest⟩

/-- Where a fold target leads, in a state that keeps the fold law (R3). -/
theorem foldLaw_target (hF : s.FoldLaw) {i : SlotId} {r : Record} {l : LineId} {k : EdgeKind}
    (h : s.slots[i] = some r) (ht : r.foldTarget = some (l, k)) : s.lines[l].foldRef k = some i :=
  hF.2 i r h (l, k) ht

/-- The fold law from its two halves. -/
theorem foldLaw_intro
    (refs : ∀ (l : LineId) (k : EdgeKind) (i : SlotId), s.lines[l].foldRef k = some i →
      ∃ r, s.slots[i] = some r ∧ r.shown = false ∧ r.foldTarget = some (l, k) ∧
        r.source = .line l ∧ r.kind = k.recordKind)
    (targets : ∀ (i : SlotId) (r : Record) (l : LineId) (k : EdgeKind), s.slots[i] = some r →
      r.foldTarget = some (l, k) → s.lines[l].foldRef k = some i) : s.FoldLaw :=
  ⟨fun l k _ i h => let ⟨r, found, rest⟩ := refs l k i h; ⟨r, found, rest⟩,
    fun i r h t ht => targets i r t.1 t.2 h (by rw [ht])⟩

@[simp] theorem restarted_foldLaw (s : State) (h : HostId) : (s.restarted h).FoldLaw ↔ s.FoldLaw := by
  simp only [State.FoldLaw, restarted_lines, restarted_slots]

/-! ### One element changed -/

theorem setSlot_getElem (s : State) (i j : SlotId) (n : Option Record) :
    (s.setSlot i n).slots[j] = if j = i then n else s.slots[j] := by
  by_cases e : j = i
  · subst e; simp
  · have : i.val ≠ j.val := fun x => e (Fin.ext x.symm)
    simp [e, Vector.getElem_set_ne _ _ this]

theorem setLine_getElem (s : State) (l m : LineId) (x : Line) :
    (s.setLine l x).lines[m] = if m = l then x else s.lines[m] := by
  by_cases e : m = l
  · subst e; simp
  · have : l.val ≠ m.val := fun x => e (Fin.ext x.symm)
    simp [e, Vector.getElem_set_ne _ _ this]

theorem clearFoldRef_slots (s : State) (t : Option (LineId × EdgeKind)) :
    (s.clearFoldRef t).slots = s.slots := by
  cases t <;> rfl

/-- Clearing a fold reference changes lines and nothing else. -/
theorem clearFoldRef_frame (s : State) (t : Option (LineId × EdgeKind)) :
    s.clearFoldRef t = { s with lines := (s.clearFoldRef t).lines } := by
  cases t <;> rfl

theorem giveUp_slots (s : State) (i j : SlotId) (n : Option Record)
    (t : Option (LineId × EdgeKind)) :
    ((s.setSlot i n).clearFoldRef t).slots[j] = if j = i then n else s.slots[j] := by
  rw [clearFoldRef_slots, setSlot_getElem]

/-! ### Giving up -/

/-- The line with its fold references to the slots in `gone` cleared. -/
abbrev Line.keep (gone : SlotId → Bool) (x : Line) : Line :=
  { x with foldRise := keptRef gone x.foldRise, foldFall := keptRef gone x.foldFall }

theorem keep_foldRef (gone : SlotId → Bool) (x : Line) (k : EdgeKind) :
    (x.keep gone).foldRef k = keptRef gone (x.foldRef k) := by cases k <;> rfl

theorem keptRef_eq_some {ref : Option SlotId} {gone : SlotId → Bool} {i : SlotId} :
    keptRef gone ref = some i ↔ ref = some i ∧ gone i = false := by
  simp [keptRef, Option.filter_eq_some_iff]

theorem keep_keep (gone gone' : SlotId → Bool) (x : Line) :
    (x.keep gone').keep gone = x.keep fun i => gone' i || gone i := by
  simp [Line.keep, keptRef, Option.filter_filter, Bool.and_comm]

/-- Two lines that keep the same references are the same. -/
theorem keep_congr {gone gone' : SlotId → Bool} {x : Line}
    (h : ∀ k, keptRef gone (x.foldRef k) = keptRef gone' (x.foldRef k)) :
    x.keep gone = x.keep gone' := by
  have rise := h .rise
  have fall := h .fall
  simp only [Line.foldRef] at rise fall
  simp only [Line.keep, rise, fall]

/-- Nothing is cleared where no slot in `gone` is a fold target. -/
theorem keep_untargeted (hF : s.FoldLaw) {gone : SlotId → Bool}
    (h : ∀ i : SlotId, gone i = true → ∀ r, s.slots[i] = some r → r.foldTarget = none) (l : LineId) :
    s.lines[l].keep gone = s.lines[l] := by
  have kept : ∀ k, keptRef gone (s.lines[l].foldRef k) = s.lines[l].foldRef k := by
    intro k
    cases hx : s.lines[l].foldRef k with
    | none => rfl
    | some i =>
      obtain ⟨r, found, _, target, _⟩ := foldLaw_ref hF hx
      refine keptRef_eq_some.mpr ⟨rfl, ?_⟩
      rw [← Bool.not_eq_true]
      intro hg
      rw [h i hg r found] at target
      cases target
  have rise := kept .rise
  have fall := kept .fall
  simp only [Line.foldRef] at rise fall
  simp only [Line.keep, rise, fall]

/-- A record in use given up, its slot now holding `n`, which is no fold target: its own fold reference
is cleared, every other line stays, and the fold law with them. -/
theorem giveUp_spec (hF : s.FoldLaw) {i : SlotId} {r : Record} (hr : s.slots[i] = some r)
    {n : Option Record} (hn : ∀ r' ∈ n, r'.foldTarget = none) :
    (∀ l : LineId, ((s.setSlot i n).clearFoldRef r.foldTarget).lines[l] =
      s.lines[l].keep fun j => j == i) ∧
    ((s.setSlot i n).clearFoldRef r.foldTarget).FoldLaw := by
  have ref_iff : ∀ l k, s.lines[l].foldRef k = some i ↔ r.foldTarget = some (l, k) := by
    intro l k
    constructor
    · intro h
      obtain ⟨r', found, _, target, _⟩ := foldLaw_ref hF h
      rw [hr] at found
      cases found
      exact target
    · exact foldLaw_target hF hr
  have refs : ∀ (l : LineId) (k : EdgeKind), ((s.setSlot i n).clearFoldRef r.foldTarget).lines[l].foldRef k =
      keptRef (fun j => j == i) (s.lines[l].foldRef k) := by
    intro l k
    have self : s.lines[l].foldRef k ≠ some i →
        s.lines[l].foldRef k = keptRef (fun j => j == i) (s.lines[l].foldRef k) := by
      intro h
      cases hx : s.lines[l].foldRef k with
      | none => rfl
      | some j =>
        have : j ≠ i := fun e => h (by rw [hx, e])
        simp [keptRef, Option.filter, this]
    cases ht : r.foldTarget with
    | none =>
      exact self fun h => by rw [ref_iff, ht] at h; cases h
    | some p =>
      obtain ⟨m, k'⟩ := p
      simp only [State.clearFoldRef, setLine_getElem, setSlot_lines]
      by_cases e : l = m ∧ k = k'
      · obtain ⟨rfl, rfl⟩ := e
        rw [if_pos rfl, setFoldRef_foldRef, (ref_iff l k).mpr ht]
        simp [keptRef, Option.filter]
      · have other : s.lines[l].foldRef k ≠ some i := fun h => by
          rw [ref_iff, ht] at h
          simp only [Option.some.injEq, Prod.mk.injEq] at h
          exact e ⟨h.1.symm, h.2.symm⟩
        split
        · rename_i el
          subst el
          rw [setFoldRef_foldRef_other _ _ fun ek => e ⟨rfl, ek⟩]
          exact self other
        · exact self other
  have lines : ∀ l : LineId, ((s.setSlot i n).clearFoldRef r.foldTarget).lines[l] =
      s.lines[l].keep fun j => j == i := by
    intro l
    have rise := refs l .rise
    have fall := refs l .fall
    simp only [Line.foldRef] at rise fall
    have same : ((s.setSlot i n).clearFoldRef r.foldTarget).lines[l] = { s.lines[l] with
        foldRise := ((s.setSlot i n).clearFoldRef r.foldTarget).lines[l].foldRise
        foldFall := ((s.setSlot i n).clearFoldRef r.foldTarget).lines[l].foldFall } := by
      cases r.foldTarget with
      | none => rfl
      | some p =>
        obtain ⟨m, k⟩ := p
        simp only [State.clearFoldRef, setLine_getElem, setSlot_lines]
        split
        · rename_i e; subst e; cases k <;> rfl
        · rfl
    rw [same, rise, fall]
  refine ⟨lines, foldLaw_intro ?_ ?_⟩
  · intro l k j h
    rw [refs, keptRef_eq_some] at h
    obtain ⟨r', found, rest⟩ := foldLaw_ref hF h.1
    refine ⟨r', ?_, rest⟩
    rw [clearFoldRef_slots, setSlot_getElem, if_neg (by simpa using h.2)]
    exact found
  · intro j r' l k found target
    rw [clearFoldRef_slots, setSlot_getElem] at found
    rw [refs, keptRef_eq_some]
    split at found
    · rw [hn r' found] at target
      cases target
    · rename_i e
      exact ⟨foldLaw_target hF found target, by simpa using e⟩

/-! ### Dropping (R23, R72) -/

/-- The record with its fold target cleared, if it is this line and kind. -/
abbrev Record.untarget (r : Record) (l : LineId) (k : EdgeKind) : Record :=
  { r with foldTarget := r.foldTarget.filter fun t => t != (l, k) }

/-- One fold reference dropped: the line's reference and its record's fold target go together, and
nothing else changes. -/
theorem dropFoldRef_spec (hF : s.FoldLaw) (l : LineId) (k : EdgeKind) :
    s.dropFoldRef l k = { s with
      slots := (s.dropFoldRef l k).slots
      lines := s.lines.set l.val (s.lines[l].setFoldRef k none) } ∧
    ∀ i : SlotId, (s.dropFoldRef l k).slots[i] = s.slots[i].map fun r => r.untarget l k := by
  have untargeted : ∀ (r : Record), r.foldTarget ≠ some (l, k) → r.untarget l k = r := by
    intro r h
    cases ht : r.foldTarget with
    | none => simp [Record.untarget, ht]; cases r; simp_all
    | some t =>
      rw [ht] at h
      have : (t != (l, k)) = true := by simpa using h
      cases r
      simp_all [Record.untarget, Option.filter]
  unfold State.dropFoldRef
  cases hr : s.lines[l].foldRef k with
  | none =>
    constructor
    · have : s.lines.set l.val s.lines[l] = s.lines := by simp
      simp only
      rw [setFoldRef_absent hr, this]
    · intro i
      cases hi : s.slots[i] with
      | none => rfl
      | some r =>
        rw [Option.map_some, untargeted r fun h => by rw [foldLaw_target hF hi h] at hr; cases hr]
  | some j =>
    obtain ⟨r, found, _, target, _⟩ := foldLaw_ref hF hr
    dsimp only
    have found' : (s.setLine l (s.lines[l].setFoldRef k none)).slots[j] = some r := found
    rw [found']
    refine ⟨rfl, fun i => ?_⟩
    rw [setSlot_getElem]
    split
    · rename_i e
      subst e
      rw [found]
      simp [Record.untarget, target, Option.filter]
    · rename_i e
      rw [setLine_slots]
      cases hi : s.slots[i] with
      | none => rfl
      | some r' =>
        have : r'.foldTarget ≠ some (l, k) := fun h => by
          have := foldLaw_target hF hi h
          rw [hr] at this
          exact e (Option.some.inj this).symm
        rw [Option.map_some, untargeted r' this]

/-- Dropping a fold reference keeps the fold law. -/
theorem dropFoldRef_foldLaw (hF : s.FoldLaw) (l : LineId) (k : EdgeKind) :
    (s.dropFoldRef l k).FoldLaw := by
  obtain ⟨frame, slots⟩ := dropFoldRef_spec hF l k
  have lines : ∀ m : LineId, (s.dropFoldRef l k).lines[m] =
      if m = l then s.lines[l].setFoldRef k none else s.lines[m] := by
    intro m
    rw [frame]
    exact setLine_getElem s l m _
  refine foldLaw_intro ?_ ?_
  · intro m k' i h
    rw [lines] at h
    have kept : s.lines[m].foldRef k' = some i ∧ ¬ (m = l ∧ k' = k) := by
      split at h
      · rename_i e
        subst e
        by_cases ek : k' = k
        · subst ek; simp at h
        · rw [setFoldRef_foldRef_other _ _ ek] at h
          exact ⟨h, fun x => ek x.2⟩
      · rename_i e
        exact ⟨h, fun x => e x.1⟩
    obtain ⟨r, found, shown, target, rest⟩ := foldLaw_ref hF kept.1
    refine ⟨r.untarget l k, by rw [slots, found]; rfl, shown, ?_, rest⟩
    have : ((m, k') != (l, k)) = true := by simpa using fun e => kept.2 ∘ fun e' => ⟨e, e'⟩
    simp only [target, Option.filter, this, if_true]
  · intro i r m k' found target
    rw [slots] at found
    cases hs : s.slots[i] with
    | none => rw [hs] at found; cases found
    | some r' =>
      rw [hs] at found
      simp only [Option.map_some, Option.some.injEq] at found
      subst found
      simp only [Option.filter_eq_some_iff] at target
      have ref := foldLaw_target hF hs target.1
      have other : ¬ (m = l ∧ k' = k) := by simpa using target.2
      rw [lines]
      split
      · rename_i e
        subst e
        rw [setFoldRef_foldRef_other _ _ fun x => other ⟨rfl, x⟩]
        exact ref
      · exact ref

/-- Both fold references of every line of a list dropped: those lines keep none, every record loses a
fold target among them, nothing else changes, and the fold law is kept (R23, R65, R68, R72). -/
theorem dropFoldRefs_spec (hF : s.FoldLaw) (named : List LineId) :
    let t := named.foldl State.dropFoldRefs s
    t = { s with slots := t.slots, lines := t.lines } ∧
    (∀ l : LineId, t.lines[l] =
      if l ∈ named then { s.lines[l] with foldRise := none, foldFall := none } else s.lines[l]) ∧
    (∀ i : SlotId, t.slots[i] = s.slots[i].map fun r =>
      { r with foldTarget := r.foldTarget.filter fun target => !decide (target.1 ∈ named) }) ∧
    t.FoldLaw := by
  induction named generalizing s with
  | nil =>
    refine ⟨rfl, by simp, fun i => ?_, hF⟩
    simp only [List.foldl_nil, List.not_mem_nil, decide_false, Bool.not_false]
    cases s.slots[i] with
    | none => rfl
    | some r => cases h : r.foldTarget <;> cases r <;> simp_all [Option.filter]
  | cons m ms ih =>
    obtain ⟨frame, slots⟩ := dropFoldRef_spec hF m .rise
    have law := dropFoldRef_foldLaw hF m .rise
    obtain ⟨frame', slots'⟩ := dropFoldRef_spec law m .fall
    obtain ⟨rest, restLines, restSlots, restLaw⟩ := ih (dropFoldRef_foldLaw law m .fall)
    simp only [List.foldl_cons]
    have both : s.dropFoldRefs m = { s with
        slots := (s.dropFoldRefs m).slots
        lines := s.lines.set m.val { s.lines[m] with foldRise := none, foldFall := none } } := by
      unfold State.dropFoldRefs
      rw [frame', frame]
      simp [Line.setFoldRef, Vector.set_set]
    refine ⟨?_, fun l => ?_, fun i => ?_, restLaw⟩
    · have : (s.dropFoldRefs m) = (s.dropFoldRef m .rise).dropFoldRef m .fall := rfl
      rw [this, rest, ← this, both]
    · have line : (s.dropFoldRefs m).lines[l] =
          if l = m then { s.lines[m] with foldRise := none, foldFall := none } else s.lines[l] := by
        rw [both]
        exact setLine_getElem s m l _
      have := restLines l
      change (ms.foldl State.dropFoldRefs (s.dropFoldRefs m)).lines[l] =
        if l ∈ ms then { (s.dropFoldRefs m).lines[l] with foldRise := none, foldFall := none }
        else (s.dropFoldRefs m).lines[l] at this
      rw [this, line]
      by_cases a : l ∈ ms <;> by_cases b : l = m <;> simp [a, b]
    · have := restSlots i
      change (ms.foldl State.dropFoldRefs (s.dropFoldRefs m)).slots[i] = _ at this
      rw [this, slots', slots, Option.map_map, Option.map_map]
      congr 1
      funext r
      simp only [Function.comp]
      congr 1
      rw [Option.filter_filter, Option.filter_filter]
      congr 1
      funext t
      obtain ⟨l, k⟩ := t
      by_cases a : l = m <;> by_cases b : l ∈ ms <;> cases k <;> simp [a, b]

end Sys2Proof.Machine
end

