-- ==== Sys2Proof/Laws/Running.lean ====
section
/-!
SUPPORT. Steps and runs said by exec: a step takes the front command, a run of several steps goes on
from what it leaves.
-/

namespace Sys2Proof.Machine

/-- One command of a run. -/
theorem run_next (s : State) {c : Instr} {rest : List Instr} {n : Nat} {t : State}
    (h : exec c { s with pending := rest } = .next t) :
    Host.Core.run core (n + 1) { s with pending := c :: rest } = Host.Core.run core n t := by
  have taken : core.step { s with pending := c :: rest } = .next t := h
  exact (Host.Core.run.eq_2 core { s with pending := c :: rest } n).trans (by rw [taken])

/-- What every command keeps, every step keeps, as long as it does not depend on the queue. -/
theorem step_keeps {p : State → Prop} (queue : ∀ (s : State) (q : List Instr), p s → p { s with pending := q })
    (keeps : ∀ (c : Instr) (s t : State), p s → exec c s = .next t → p t) {s t : State} (h : p s)
    (e : step s = .next t) : p t := by
  unfold step at e
  split at e
  · cases e; exact h
  · exact keeps _ _ _ (queue _ _ h) e

end Sys2Proof.Machine
end

