-- ==== Sys2Proof/Laws/PerInstr.lean ====
section
/-!
SUPPORT. The family PayloadRule, one lemma per command: a well-formed command that is a request frame
carries at most 200 payload bytes (R175, R176), and its code is in the command code table exactly when
it is not UNKNOWN_COMMAND (R183, R188).
-/

namespace Sys2Proof.Laws.PayloadRule

/-- What a well-formed command's frame carries, where it is one. -/
def Statement (i : Instr) : Prop :=
  i.wellFormed = true → ∀ f : RequestFrame, i.frame? = some f →
    f.payload.length ≤ maxPayload ∧
    (f.code ∈ tableCodes ↔ ∀ h code tag payload, i ≠ .unknownCommand h code tag payload)

/-- A request of the table. -/
theorem of_request {i : Instr} {f : RequestFrame} (frame : i.frame? = some f)
    (check : i.wellFormed = payloadFits f.payload) (code : f.code ∈ tableCodes)
    (known : ∀ h code tag payload, i ≠ .unknownCommand h code tag payload) : Statement i := by
  intro wf g found
  obtain rfl : f = g := Option.some.inj (frame.symm.trans found)
  rw [check] at wf
  exact ⟨of_decide_eq_true wf, fun _ => known, fun _ => code⟩

/-- A command that is no request. -/
theorem of_event {i : Instr} (frame : i.frame? = none) : Statement i := by
  intro _ f found
  rw [frame] at found
  cases found

theorem attach (host : HostId) (tag : Byte) (payload : List Byte) :
    Statement (.attach host tag payload) :=
  of_request rfl rfl (by simp) (by intros; exact Instr.noConfusion)

theorem detach (host : HostId) (tag : Byte) (payload : List Byte) :
    Statement (.detach host tag payload) :=
  of_request rfl rfl (by simp) (by intros; exact Instr.noConfusion)

theorem evict (host : HostId) (tag : Byte) (payload : List Byte) :
    Statement (.evict host tag payload) :=
  of_request rfl rfl (by simp) (by intros; exact Instr.noConfusion)

theorem restartHub (host : HostId) (tag : Byte) (payload : List Byte) :
    Statement (.restartHub host tag payload) :=
  of_request rfl rfl (by simp) (by intros; exact Instr.noConfusion)

theorem hubStatus (host : HostId) (tag : Byte) (payload : List Byte) :
    Statement (.hubStatus host tag payload) :=
  of_request rfl rfl (by simp) (by intros; exact Instr.noConfusion)

theorem repeatResponse (host : HostId) (tag : Byte) (payload : List Byte) :
    Statement (.repeatResponse host tag payload) :=
  of_request rfl rfl (by simp) (by intros; exact Instr.noConfusion)

theorem sendNote (host : HostId) (tag : Byte) (payload : List Byte) :
    Statement (.sendNote host tag payload) :=
  of_request rfl rfl (by simp) (by intros; exact Instr.noConfusion)

theorem readTime (host : HostId) (tag : Byte) (payload : List Byte) :
    Statement (.readTime host tag payload) :=
  of_request rfl rfl (by simp) (by intros; exact Instr.noConfusion)

theorem adjustTime (host : HostId) (tag : Byte) (payload : List Byte) :
    Statement (.adjustTime host tag payload) :=
  of_request rfl rfl (by simp) (by intros; exact Instr.noConfusion)

theorem subscribeLines (host : HostId) (tag : Byte) (payload : List Byte) :
    Statement (.subscribeLines host tag payload) :=
  of_request rfl rfl (by simp) (by intros; exact Instr.noConfusion)

theorem subscribeHub (host : HostId) (tag : Byte) (payload : List Byte) :
    Statement (.subscribeHub host tag payload) :=
  of_request rfl rfl (by simp) (by intros; exact Instr.noConfusion)

theorem readSubscriptions (host : HostId) (tag : Byte) (payload : List Byte) :
    Statement (.readSubscriptions host tag payload) :=
  of_request rfl rfl (by simp) (by intros; exact Instr.noConfusion)

theorem readEvents (host : HostId) (tag : Byte) (payload : List Byte) :
    Statement (.readEvents host tag payload) :=
  of_request rfl rfl (by simp) (by intros; exact Instr.noConfusion)

theorem ackEvents (host : HostId) (tag : Byte) (payload : List Byte) :
    Statement (.ackEvents host tag payload) :=
  of_request rfl rfl (by simp) (by intros; exact Instr.noConfusion)

theorem queueStatus (host : HostId) (tag : Byte) (payload : List Byte) :
    Statement (.queueStatus host tag payload) :=
  of_request rfl rfl (by simp) (by intros; exact Instr.noConfusion)

theorem lineConfigure (host : HostId) (tag : Byte) (payload : List Byte) :
    Statement (.lineConfigure host tag payload) :=
  of_request rfl rfl (by simp) (by intros; exact Instr.noConfusion)

theorem lineArm (host : HostId) (tag : Byte) (payload : List Byte) :
    Statement (.lineArm host tag payload) :=
  of_request rfl rfl (by simp) (by intros; exact Instr.noConfusion)

theorem lineDisarm (host : HostId) (tag : Byte) (payload : List Byte) :
    Statement (.lineDisarm host tag payload) :=
  of_request rfl rfl (by simp) (by intros; exact Instr.noConfusion)

theorem lineRelease (host : HostId) (tag : Byte) (payload : List Byte) :
    Statement (.lineRelease host tag payload) :=
  of_request rfl rfl (by simp) (by intros; exact Instr.noConfusion)

theorem lineStatus (host : HostId) (tag : Byte) (payload : List Byte) :
    Statement (.lineStatus host tag payload) :=
  of_request rfl rfl (by simp) (by intros; exact Instr.noConfusion)

theorem watchInstall (host : HostId) (tag : Byte) (payload : List Byte) :
    Statement (.watchInstall host tag payload) :=
  of_request rfl rfl (by simp) (by intros; exact Instr.noConfusion)

theorem watchCancel (host : HostId) (tag : Byte) (payload : List Byte) :
    Statement (.watchCancel host tag payload) :=
  of_request rfl rfl (by simp) (by intros; exact Instr.noConfusion)

theorem watchRead (host : HostId) (tag : Byte) (payload : List Byte) :
    Statement (.watchRead host tag payload) :=
  of_request rfl rfl (by simp) (by intros; exact Instr.noConfusion)

theorem outClaim (host : HostId) (tag : Byte) (payload : List Byte) :
    Statement (.outClaim host tag payload) :=
  of_request rfl rfl (by simp) (by intros; exact Instr.noConfusion)

theorem outRelease (host : HostId) (tag : Byte) (payload : List Byte) :
    Statement (.outRelease host tag payload) :=
  of_request rfl rfl (by simp) (by intros; exact Instr.noConfusion)

theorem outDrive (host : HostId) (tag : Byte) (payload : List Byte) :
    Statement (.outDrive host tag payload) :=
  of_request rfl rfl (by simp) (by intros; exact Instr.noConfusion)

theorem outPulse (host : HostId) (tag : Byte) (payload : List Byte) :
    Statement (.outPulse host tag payload) :=
  of_request rfl rfl (by simp) (by intros; exact Instr.noConfusion)

theorem outBind (host : HostId) (tag : Byte) (payload : List Byte) :
    Statement (.outBind host tag payload) :=
  of_request rfl rfl (by simp) (by intros; exact Instr.noConfusion)

theorem outUnbind (host : HostId) (tag : Byte) (payload : List Byte) :
    Statement (.outUnbind host tag payload) :=
  of_request rfl rfl (by simp) (by intros; exact Instr.noConfusion)

theorem outSeize (host : HostId) (tag : Byte) (payload : List Byte) :
    Statement (.outSeize host tag payload) :=
  of_request rfl rfl (by simp) (by intros; exact Instr.noConfusion)

theorem outSafe (host : HostId) (tag : Byte) (payload : List Byte) :
    Statement (.outSafe host tag payload) :=
  of_request rfl rfl (by simp) (by intros; exact Instr.noConfusion)

theorem outStatus (host : HostId) (tag : Byte) (payload : List Byte) :
    Statement (.outStatus host tag payload) :=
  of_request rfl rfl (by simp) (by intros; exact Instr.noConfusion)

theorem setAttention (host : HostId) (tag : Byte) (payload : List Byte) :
    Statement (.setAttention host tag payload) :=
  of_request rfl rfl (by simp) (by intros; exact Instr.noConfusion)

theorem clearAttention (host : HostId) (tag : Byte) (payload : List Byte) :
    Statement (.clearAttention host tag payload) :=
  of_request rfl rfl (by simp) (by intros; exact Instr.noConfusion)

theorem unknownCommand (host : HostId) (code : Byte) (tag : Byte) (payload : List Byte) :
    Statement (.unknownCommand host code tag payload) := by
  intro wf f found
  obtain rfl : (⟨host, code, tag, payload⟩ : RequestFrame) = f := Option.some.inj found
  have check : payloadFits payload = true ∧ (!tableCodes.contains code) = true :=
    (Bool.and_eq_true ..).mp wf
  refine ⟨of_decide_eq_true check.1, fun h => ?_, fun h => absurd rfl (h host code tag payload)⟩
  have : tableCodes.contains code = true := List.contains_iff_mem.mpr h
  rw [this] at check
  exact absurd check.2 (by decide)

theorem frameError (host : HostId) (crc : Byte) : Statement (.frameError host crc) := of_event rfl

theorem frameRefusedForLength (host : HostId) (length : Byte) : Statement (.frameRefusedForLength host length) := of_event rfl

theorem frameDiscarded (host : HostId) : Statement (.frameDiscarded host) := of_event rfl

theorem responseSent (host : HostId) : Statement (.responseSent host) := of_event rfl

theorem powerOnReset (straps : HostSet) (levels : LineSet) (selects : HostSet) : Statement (.powerOnReset straps levels selects) := of_event rfl

theorem externalReset (straps : HostSet) (levels : LineSet) (selects : HostSet) : Statement (.externalReset straps levels selects) := of_event rfl

theorem tick (event : TickEvent) : Statement (.tick event) := of_event rfl

theorem timeWrap (levels : LineSet) : Statement (.timeWrap levels) := of_event rfl

theorem qualificationStart (line : LineId) : Statement (.qualificationStart line) := of_event rfl

theorem glitch (line : LineId) : Statement (.glitch line) := of_event rfl

theorem qualifiedEdge (line : LineId) : Statement (.qualifiedEdge line) := of_event rfl

theorem checkExpiry (entry : WatchId) : Statement (.checkExpiry entry) := of_event rfl

theorem pulseExpiry (output : OutputId) : Statement (.pulseExpiry output) := of_event rfl

theorem supervisionExpiry (host : HostId) : Statement (.supervisionExpiry host) := of_event rfl

theorem selectFalls (host : HostId) : Statement (.selectFalls host) := of_event rfl

theorem selectRises (host : HostId) : Statement (.selectRises host) := of_event rfl

theorem byteCompletes (host : HostId) (byte : Byte) : Statement (.byteCompletes host byte) := of_event rfl

end Sys2Proof.Laws.PayloadRule
end

