-- ==== Sys2Proof/Laws/Pool.lean ====
section
/-!
SUPPORT. The record pool and the host queues, each operation said once: an offer (R12 to R18), a showing
(R19), a holder removal (R24), the removal of a queue's oldest entries (R48), and which fields a
reported edge can touch (R69 to R73).
-/

namespace Sys2Proof.Machine

variable {s : State}

/-! ### Offers (R12 to R18) -/

/-- The slot that an offer fills is FREE (R1). -/
theorem freeSlot?_free {i : SlotId} (h : s.freeSlot? = some i) : s.slots[i] = none := by
  have := List.find?_some h
  simpa using this

/-- No slot is FREE when none is found. -/
theorem freeSlot?_full (h : s.freeSlot? = none) (i : SlotId) : s.slots[i] ≠ none := by
  simp only [State.freeSlot?, List.find?_eq_none] at h
  have := h i (List.mem_finRange i)
  simpa using this

/-- Everything an offer can do. -/
theorem offer_cases (s : State) (o : Offer) :
    (s.routing o = 0#4 ∧ s.offer o = (s, .unrouted)) ∨
    (s.routing o ≠ 0#4 ∧ s.freeSlot? = none ∧ o.kind = .note ∧ s.offer o = (s, .noSlot)) ∨
    (s.routing o ≠ 0#4 ∧ s.freeSlot? = none ∧ o.kind ≠ .note ∧
      s.offer o = ({ s.chargeMisses (s.routing o) with exhaustion := saturate s.exhaustion }, .noSlot)) ∨
    (∃ i, s.routing o ≠ 0#4 ∧ s.freeSlot? = some i ∧
      s.routing o &&& ~~~s.fullQueues (s.routing o) = 0#4 ∧
      s.offer o = (s.chargeMisses (s.fullQueues (s.routing o)),
        .allMissed (s.fullQueues (s.routing o)))) ∨
    (∃ i, s.routing o ≠ 0#4 ∧ s.freeSlot? = some i ∧
      s.routing o &&& ~~~s.fullQueues (s.routing o) ≠ 0#4 ∧
      s.offer o = ((s.chargeMisses (s.fullQueues (s.routing o))).create o i
          (s.routing o &&& ~~~s.fullQueues (s.routing o)),
        .created i (s.routing o &&& ~~~s.fullQueues (s.routing o))
          (s.fullQueues (s.routing o)))) := by
  unfold State.offer
  dsimp only
  split
  · exact .inl ⟨‹_›, rfl⟩
  rename_i routed
  split
  · rename_i full
    split
    · exact .inr (.inl ⟨routed, full, ‹_›, rfl⟩)
    · exact .inr (.inr (.inl ⟨routed, full, ‹_›, rfl⟩))
  · rename_i i free
    split
    · exact .inr (.inr (.inr (.inl ⟨i, routed, free, ‹_›, rfl⟩)))
    · exact .inr (.inr (.inr (.inr ⟨i, routed, free, ‹_›, rfl⟩)))

/-- The fields an offer can change. -/
theorem offer_frame (s : State) (o : Offer) :
    (s.offer o).1 = { s with
      slots := (s.offer o).1.slots, nextSeq := (s.offer o).1.nextSeq
      exhaustion := (s.offer o).1.exhaustion, queues := (s.offer o).1.queues
      attention := (s.offer o).1.attention } := by
  rcases offer_cases s o with ⟨_, e⟩ | ⟨_, _, _, e⟩ | ⟨_, _, _, e⟩ | ⟨_, _, _, _, e⟩ | ⟨_, _, _, _, e⟩ <;>
    rw [e] <;> rfl

@[simp] theorem offer_sessions (s : State) (o : Offer) : (s.offer o).1.sessions = s.sessions := by
  rw [offer_frame]
@[simp] theorem offer_lines (s : State) (o : Offer) : (s.offer o).1.lines = s.lines := by
  rw [offer_frame]
@[simp] theorem offer_watches (s : State) (o : Offer) : (s.offer o).1.watches = s.watches := by
  rw [offer_frame]
@[simp] theorem offer_outputs (s : State) (o : Offer) : (s.offer o).1.outputs = s.outputs := by
  rw [offer_frame]
@[simp] theorem offer_ports (s : State) (o : Offer) : (s.offer o).1.ports = s.ports := by
  rw [offer_frame]
@[simp] theorem offer_subscriptions (s : State) (o : Offer) :
    (s.offer o).1.subscriptions = s.subscriptions := by
  rw [offer_frame]
@[simp] theorem offer_pending (s : State) (o : Offer) : (s.offer o).1.pending = s.pending := by
  rw [offer_frame]

/-- What holds of a state and is kept by one offer is kept by a list of them. -/
theorem takeOffers_induction {p : State → Prop} (keeps : ∀ u o, p u → p (u.offer o).1) {s : State}
    (h : p s) (offers : List Offer) : p (s.takeOffers offers) := by
  unfold State.takeOffers
  induction offers generalizing s with
  | nil => exact h
  | cons o os ih => exact ih (keeps s o h)

/-- The fields a list of offers can change. -/
theorem takeOffers_frame (s : State) (offers : List Offer) :
    s.takeOffers offers = { s with
      slots := (s.takeOffers offers).slots, nextSeq := (s.takeOffers offers).nextSeq
      exhaustion := (s.takeOffers offers).exhaustion, queues := (s.takeOffers offers).queues
      attention := (s.takeOffers offers).attention } := by
  unfold State.takeOffers
  induction offers generalizing s with
  | nil => rfl
  | cons o os ih =>
    rw [List.foldl_cons, ih, offer_frame]

/-! ### Edges (R69 to R73) -/

/-- The fields that the record part of a report can change. -/
theorem recordEdge_frame (s : State) (l : LineId) (k : EdgeKind) (t0 : HubTime) (snapshot : LineSet) :
    s.recordEdge l k t0 snapshot = { s with
      slots := (s.recordEdge l k t0 snapshot).slots
      nextSeq := (s.recordEdge l k t0 snapshot).nextSeq
      exhaustion := (s.recordEdge l k t0 snapshot).exhaustion
      queues := (s.recordEdge l k t0 snapshot).queues
      lines := (s.recordEdge l k t0 snapshot).lines
      attention := (s.recordEdge l k t0 snapshot).attention } := by
  have target : ∀ (u : State) i, u.setFoldTarget i l k = { u with
      slots := (u.setFoldTarget i l k).slots, lines := (u.setFoldTarget i l k).lines } := by
    intro u i
    unfold State.setFoldTarget
    dsimp only
    split <;> rfl
  have offer : s.offerEdge l k t0 snapshot = { s with
      slots := (s.offerEdge l k t0 snapshot).slots
      nextSeq := (s.offerEdge l k t0 snapshot).nextSeq
      exhaustion := (s.offerEdge l k t0 snapshot).exhaustion
      queues := (s.offerEdge l k t0 snapshot).queues
      lines := (s.offerEdge l k t0 snapshot).lines
      attention := (s.offerEdge l k t0 snapshot).attention } := by
    unfold State.offerEdge
    dsimp only
    split
    · split
      · rw [offer_frame]
      · rw [target, offer_frame]
    · rw [offer_frame]
  have fold : ∀ i policy, s.foldRecord i policy t0 snapshot = { s with
      slots := (s.foldRecord i policy t0 snapshot).slots } := by
    intro i policy
    unfold State.foldRecord
    split <;> rfl
  unfold State.recordEdge
  split
  · exact offer
  · exact offer
  · rw [fold]

/-! ### Showing and removal (R19, R24) -/

/-- A showing: the record in the slot becomes SHOWN and no fold target, the fold reference to it is
cleared, and nothing else changes (R19). -/
theorem showRecord_spec (hF : s.FoldLaw) (i : SlotId) :
    s.showRecord i = { s with slots := (s.showRecord i).slots, lines := (s.showRecord i).lines } ∧
    (∀ j : SlotId, (s.showRecord i).slots[j] = if j = i then shownSlot s.slots[j] else s.slots[j]) ∧
    (∀ l : LineId, (s.showRecord i).lines[l] = s.lines[l].keep fun j => j == i) ∧
    (s.showRecord i).FoldLaw := by
  unfold State.showRecord
  cases hr : s.slots[i] with
  | none =>
    refine ⟨rfl, fun j => ?_, fun l => ?_, hF⟩
    · dsimp only
      split
      · rename_i e; subst e; rw [hr]; rfl
      · rfl
    · refine (keep_untargeted hF (fun j hj r found => ?_) l).symm
      obtain rfl : j = i := by simpa using hj
      rw [hr] at found
      cases found
  | some r =>
    obtain ⟨lines, law⟩ := giveUp_spec hF hr (n := some { r with shown := true, foldTarget := none })
      (by rintro _ ⟨⟩; rfl)
    refine ⟨?_, fun j => ?_, lines, law⟩
    · dsimp only
      rw [clearFoldRef_frame]
      rfl
    · dsimp only
      rw [clearFoldRef_slots, setSlot_getElem]
      split
      · rename_i e; subst e; rw [hr]; rfl
      · rfl

/-- A holder removal: the host leaves the record's holder set, a record with no holder left is freed and
the fold reference to it cleared, and nothing else changes (R24). -/
theorem removeHolder_spec (hF : s.FoldLaw) (i : SlotId) (h : HostId) :
    s.removeHolder i h =
      { s with slots := (s.removeHolder i h).slots, lines := (s.removeHolder i h).lines } ∧
    (∀ j : SlotId, (s.removeHolder i h).slots[j] =
      if j = i then dropHolder h s.slots[j] else s.slots[j]) ∧
    (∀ l : LineId, (s.removeHolder i h).lines[l] =
      s.lines[l].keep fun j => (s.removeHolder i h).slots[j].isNone) ∧
    (s.removeHolder i h).FoldLaw := by
  unfold State.removeHolder
  cases hr : s.slots[i] with
  | none =>
    refine ⟨rfl, fun j => ?_, fun l => ?_, hF⟩
    · dsimp only
      split
      · rename_i e; subst e; rw [hr]; rfl
      · rfl
    · refine (keep_untargeted hF (fun j hj r found => ?_) l).symm
      rw [found] at hj
      cases hj
  | some r =>
    dsimp only
    split
    · rename_i last
      obtain ⟨lines, law⟩ := giveUp_spec hF hr (n := none) (by rintro _ ⟨⟩)
      refine ⟨by rw [clearFoldRef_frame]; rfl, fun j => ?_, fun l => ?_, law⟩
      · refine (giveUp_slots s i j none r.foldTarget).trans ?_
        split
        · rename_i e; subst e; rw [hr]; simp only [dropHolder, last, if_true]
        · rfl
      · rw [lines]
        refine keep_congr fun k => ?_
        cases hx : s.lines[l].foldRef k with
        | none => rfl
        | some j =>
          obtain ⟨r', found, _⟩ := foldLaw_ref hF hx
          simp only [keptRef, Option.filter, giveUp_slots]
          by_cases e : j = i
          · subst e; simp
          · simp only [e, if_false, found, Option.isNone_some]; simp [e]
    · rename_i left
      refine ⟨rfl, fun j => ?_, fun l => ?_, foldLaw_intro ?_ ?_⟩
      · rw [setSlot_getElem]
        split
        · rename_i e; subst e; rw [hr]; simp only [dropHolder, left, if_false]
        · rfl
      · refine (keep_untargeted hF (fun j hj r' found => ?_) l).symm
        rw [setSlot_getElem] at hj
        split at hj
        · cases hj
        · rw [found] at hj; cases hj
      · intro l k j ref
        obtain ⟨r', found, rest⟩ := foldLaw_ref hF ref
        rw [setSlot_getElem]
        by_cases e : j = i
        · subst e
          rw [hr] at found
          cases found
          exact ⟨_, if_pos rfl, rest⟩
        · exact ⟨r', by rw [if_neg e]; exact found, rest⟩
      · intro j r' l k found target
        rw [setSlot_getElem] at found
        split at found
        · rename_i e
          subst e
          cases found
          exact foldLaw_target hF hr target
        · exact foldLaw_target hF found target

/-- The showings of a list of entries (R45). -/
theorem showEntries_spec (hF : s.FoldLaw) (entries : List Entry) :
    let t := s.showEntries entries
    t = { s with slots := t.slots, lines := t.lines } ∧
    (∀ j : SlotId, t.slots[j] =
      if entries.any (fun e => e.slot == j) then shownSlot s.slots[j] else s.slots[j]) ∧
    (∀ l : LineId, t.lines[l] = s.lines[l].keep fun j => entries.any fun e => e.slot == j) ∧
    t.FoldLaw := by
  unfold State.showEntries
  induction entries generalizing s with
  | nil =>
    refine ⟨rfl, fun j => by simp, fun l => (keep_untargeted hF (fun i hi => ?_) l).symm, hF⟩
    cases hi
  | cons e es ih =>
    obtain ⟨frame, slots, lines, law⟩ := showRecord_spec hF e.slot
    obtain ⟨restFrame, restSlots, restLines, restLaw⟩ := ih law
    simp only [List.foldl_cons]
    refine ⟨?_, fun j => ?_, fun l => ?_, restLaw⟩
    · rw [restFrame, frame]
    · rw [restSlots, slots, List.any_cons]
      by_cases e1 : j = e.slot
      · subst e1
        cases s.slots[e.slot.val] <;> simp [shownSlot]
      · have : (e.slot == j) = false := by simpa using fun x : e.slot = j => e1 x.symm
        simp [e1, this]
    · rw [restLines, lines, keep_keep]
      refine keep_congr fun k => ?_
      congr 1
      funext j
      rw [List.any_cons]
      by_cases e1 : j = e.slot
      · simp [e1]
      · have : (e.slot == j) = false := by simpa using fun x : e.slot = j => e1 x.symm
        simp [e1, this]

/-- The `n` oldest entries of a queue removed, in a queue that refers to no record twice (R24, R48). -/
theorem removeOldest_spec (hF : s.FoldLaw) (h : HostId) (n : Nat)
    (once : (s.queues[h].entries.map Entry.slot).Nodup) :
    let t := s.removeOldest h n
    t = { s with
      slots := t.slots, lines := t.lines
      queues := s.queues.set h.val { s.queues[h] with entries := s.queues[h].entries.drop n } } ∧
    (∀ j : SlotId, t.slots[j] =
      if (s.queues[h].entries.take n).any (fun e => e.slot == j) then dropHolder h s.slots[j]
      else s.slots[j]) ∧
    (∀ l : LineId, t.lines[l] = s.lines[l].keep fun j => t.slots[j].isNone) ∧ t.FoldLaw := by
  dsimp only
  induction n generalizing s with
  | zero =>
    refine ⟨?_, fun j => by simp [State.removeOldest], fun l => ?_, hF⟩
    · have : s.queues.set h.val s.queues[h] = s.queues := by simp
      change s = { s with queues := s.queues.set h.val s.queues[h] }
      rw [this]
    · refine (keep_untargeted hF (fun i hi r found => ?_) l).symm
      change s.slots[i].isNone = true at hi
      rw [found] at hi
      cases hi
  | succ n ih =>
    generalize ht : s.removeOldest h (n + 1) = t
    rw [State.removeOldest] at ht
    cases hq : s.queues[h].entries with
    | nil =>
      have same : s.removeHead h = s := by unfold State.removeHead; rw [hq]
      rw [same] at ht
      subst ht
      have := ih hF once
      rw [hq] at this
      simpa using this
    | cons e rest =>
      have head : s.removeHead h =
          (s.setQueue h { s.queues[h] with entries := rest }).removeHolder e.slot h := by
        unfold State.removeHead; rw [hq]
      have law : (s.setQueue h { s.queues[h] with entries := rest }).FoldLaw := hF
      obtain ⟨frame, slots, lines, headLaw⟩ := removeHolder_spec law e.slot h
      rw [← head] at frame slots lines headLaw
      have queues : (s.removeHead h).queues =
          s.queues.set h.val { s.queues[h] with entries := rest } := by rw [frame]; rfl
      have queue : (s.removeHead h).queues[h] = { s.queues[h] with entries := rest } := by
        rw [queues]; simp
      rw [hq] at once
      have onceRest : ((s.removeHead h).queues[h].entries.map Entry.slot).Nodup := by
        rw [queue]; exact (List.nodup_cons.mp once).2
      have notHead : ∀ x ∈ rest, x.slot ≠ e.slot := fun x hx he =>
        (List.nodup_cons.mp once).1 (List.mem_map.mpr ⟨x, hx, he⟩)
      obtain ⟨restFrame, restSlots, restLines, restLaw⟩ := ih headLaw onceRest
      subst ht
      refine ⟨?_, fun j => ?_, fun l => ?_, restLaw⟩
      · rw [restFrame, queue, queues]
        simp only [List.drop_succ_cons, Vector.set_set]
        rw [frame]
        rfl
      · rw [restSlots, queue, slots]
        simp only [List.take_succ_cons, List.any_cons, setQueue_slots]
        by_cases ej : j = e.slot
        · subst ej
          have : ((rest.take n).any fun x => x.slot == e.slot) = false := by
            rw [List.any_eq_false]
            intro x hx
            simpa using notHead x (List.mem_of_mem_take hx)
          simp [this]
        · have : (e.slot == j) = false := by simpa using fun x : e.slot = j => ej x.symm
          simp [ej, this]
      · rw [restLines, lines, keep_keep]
        refine keep_congr fun k => ?_
        congr 1
        funext j
        simp only [restSlots]
        cases (s.removeHead h).slots[j] with
        | none => split <;> simp [dropHolder]
        | some r => simp

end Sys2Proof.Machine
end

