-- ==== Sys2Proof/Tests/Slice0.lean ====
section
/-!
SUPPORT. The author's tests: the static check refuses what it should, values that the manual works out,
and for every obligation with hypotheses a witness theorem that shows a state and operands that meet
them, with a case for each clause at the boundaries.
-/

namespace Sys2Proof.Tests

open Sys2Proof Sys2Proof.Machine

/- One kernel evaluation at a time: together they would hold one thread each. -/
set_option Elab.async false

/-! ### Helpers -/

/-- The next state of an outcome, if there is one. -/
def after : Host.Outcome State Fault Refusal → Option State
  | .next t => some t
  | _ => none

/-- What a witness's `(after o).isSome = true` says. -/
theorem next_of_after {o : Host.Outcome State Fault Refusal} (h : (after o).isSome = true) :
    ∃ t, o = .next t := by
  cases o with
  | next t => exact ⟨t, rfl⟩
  | fault r => cases r
  | refused r => cases h

/-- `s` with the port of a request row at the end of that frame, its CRC byte to come. -/
def ready (s : State) (i : Instr) : State :=
  match i.frame? with
  | none => s
  | some f =>
    let bytes := requestBytes f.code f.tag f.payload
    { s with
      ports := s.ports.set f.host
        { s.ports[f.host] with
          selectLow := true, receiver := .receiving bytes (crc8 bytes), sdo := some idleByte } }

/-- The frame of the request row `i` is awaited in `ready s i`, and exec answers it with this status and
payload. -/
def answers (s : State) (i : Instr) (status : Status) (payload : List Byte) : Bool :=
  match i.frame?, exec i (ready s i) with
  | some f, .next t =>
    (ready s i).awaits i &&
      t.ports[f.host].stored == some ⟨status, f.tag, s.hubTime, payload⟩
  | _, _ => false

/-- The same for an ATTACHED caller. -/
def takes (s : State) (i : Instr) (status : Status) (payload : List Byte) : Bool :=
  (match i.frame? with
    | none => false
    | some f => (ready s i).isAttached f.host) && answers s i status payload

/-- The rows `f payload`, one for each payload, all answered as said. -/
def takesAll (s : State) (row : List Byte → Instr) (cases : List (List Byte × Status × List Byte)) :
    Bool :=
  cases.all fun c => takes s (row c.1) c.2.1 c.2.2

/-- H0 ATTACHED and SUPERVISOR, H1 ATTACHED and ORDINARY, H2 DETACHED, H3 LOST. -/
def hosts : State :=
  { State.reset with
    hubTime := 5000, epoch := 3, nextSeq := 902
    sessions := #v[
      ⟨.attached, .supervisor, 0, none, 1, false, .noLoss⟩,
      ⟨.attached, .ordinary, 5, some ⟨5, false⟩, 1, false, .noLoss⟩,
      ⟨.detached, .ordinary, 0, none, 0, true, .noLoss⟩,
      ⟨.lost, .ordinary, 0, none, 4, true, .timeout⟩]
    attention := #v[⟨0x01, 0, false⟩, ⟨0x03, 0x16, true⟩, ⟨0, 0, true⟩, ⟨0, 0, true⟩] }

/-- `hosts` with two records, three lines of H1 and one of H0, a watch of H1 whose check is due, an
output of H1 with a pulse and a binding, and an output of H0. -/
def served : State :=
  { hosts with
    slots := (hosts.slots.set 0 (some
        ⟨900, .lineRise, .line 2, 4000, .line 0x0004 none, 0x3, false, some (2, .rise)⟩)).set 1 (some
        ⟨901, .note, .host 1, 4500, .note [0xAA], 0x1, true, none⟩)
    queues := (hosts.queues.set 0 ⟨[⟨0, 0⟩, ⟨1, 2⟩], 3, 5, 2⟩).set 1 ⟨[⟨0, 0⟩], 0, 0, 1⟩
    subscriptions := (hosts.subscriptions.set 0 ⟨0x4, 0x0, true, true⟩).set 1 ⟨0x4, 0x8, false, false⟩
    lines := (((hosts.lines.set 2 { Line.initial with
        state := .armed, owner := some 1, filter := 200, policy := .latest, foldRise := some 0
        }).set 3 { Line.initial with
        state := .disarming, owner := some 1, sense := .fall, filter := 9
        qualification := some ⟨4995, 5, 5⟩ }).set 4 { Line.initial with
        state := .disarmed, owner := some 1 }).set 5 { Line.initial with
        state := .disarmed, owner := some 0 }
    watches := hosts.watches.set 0
      ⟨.waiting, some 1, 0x21, 0x30, 0x10, 10, 2, 4, .once, 0x3, 0, 0, 0⟩
    outputs := (hosts.outputs.set 0
        ⟨some 1, .high, .low, some ⟨.high, .low, ⟨20, false⟩⟩, some ⟨2, .rise, .high⟩⟩).set 1
        ⟨some 0, .low, .low, none, none⟩ }

/-- Every law holds in `served`, with any frame at its CRC byte (the premises of the statements that
name a law). -/
theorem test_served_laws :
    served.HolderLaw ∧ served.QueueLaw ∧ served.FoldLaw ∧ served.LineLaw ∧ served.WatchLaw ∧
    (∀ w : WatchId, served.watches[w].CountLaw) ∧
    (∀ o : OutputId, served.outputs[o].OwnerLaw ∧ served.outputs[o].PulseLaw) ∧
    served.SessionLaw ∧ served.NoticeLaw ∧ served.AttentionLaw ∧
    (∀ h : HostId, served.ports[h].Law) ∧ served.RecordLaw ∧
    (∀ (o : OutputId) (g : HostId), served.outputs[o].owner = some g → served.isAttached g = true) := by
  refine ⟨?_, ?_, ?_, ?_, ?_, ?_, ?_, ?_, ?_, ?_, ?_, ?_, ?_⟩
  all_goals decide +kernel

theorem test_ready_laws (i : Instr) :
    (ready served i).HolderLaw ∧ (ready served i).QueueLaw ∧ (ready served i).FoldLaw ∧
    (∀ (o : OutputId) (g : HostId), (ready served i).outputs[o].owner = some g →
      (ready served i).isAttached g = true) := by
  unfold ready
  have laws := test_served_laws
  cases i.frame? <;> exact ⟨laws.1, laws.2.1, laws.2.2.1, laws.2.2.2.2.2.2.2.2.2.2.2.2⟩

/-! ### The static check refuses ill-formed commands -/

theorem test_wellFormed_refuses_long_payload :
    (Instr.readTime 0 0 (List.replicate 201 0#8)).wellFormed = false ∧
    (Instr.readTime 0 0 (List.replicate 200 0#8)).wellFormed = true := by decide +kernel

theorem test_wellFormed_refuses_table_code :
    tableCodes.all (fun code => (Instr.unknownCommand 0 code 0 []).wellFormed) = false ∧
    tableCodes.any (fun code => (Instr.unknownCommand 0 code 0 []).wellFormed) = false ∧
    (Instr.unknownCommand 0 0x00#8 0 []).wellFormed = true := by decide

theorem test_wellFormed_refuses_short_length :
    (Instr.frameRefusedForLength 0 200#8).wellFormed = false ∧
    (Instr.frameRefusedForLength 0 201#8).wellFormed = true := by decide

theorem test_no_row_has_bits : decodeTableWord 0 0 = none ∧ State.reset.withFetchWord 8 1 = State.reset :=
  ⟨rfl, rfl⟩

/-! ### Values that the manual works out -/

/-- R178: the two check values of the manual. -/
theorem test_crc_check_values :
    crc8 [0x31, 0x32, 0x33, 0x34, 0x35, 0x36, 0x37, 0x38, 0x39] = 0xF4#8 ∧
    crc8 [0x10, 0x01, 0x00] = 0xB7#8 := by decide +kernel

/-- R189 and R7: a WATCH_MATCH entry of source W3, 11 + 5 bytes. -/
theorem test_entry_layout :
    entryBytes ⟨0x0102, .watchMatch, .watch 3, 0x0A0B0C0D, .watch 0x21 0x0010 0x0004, 1, false, none⟩
      0x0506 =
    [0x01, 0x02, 0x03, 0x13, 0x0A, 0x0B, 0x0C, 0x0D, 0x05, 0x06, 0x05, 0x21, 0x00, 0x10, 0x00, 0x04] := by
  decide

/-- Section 4.7: the adjustment by +500,000 at 2,000,100 reports 2,500,100, epoch 3, created 1 and
sequence 40. -/
theorem test_adjust_example :
    takes { served with hubTime := 2000100, nextSeq := 40 }
      (.adjustTime 0 7 (wordBytes 500000)) .ok
      (wordBytes 2500100 ++ halfBytes 3 ++ [1] ++ halfBytes 40) = true := by decide +kernel

/-- Section 6.8 at 20,000: an OUT_PULSE of duration 50 leaves level HIGH, return level LOW and 500 ticks
remaining. -/
theorem test_pulse_example :
    let bound : State := { served with
      outputs := served.outputs.set 5 ⟨some 1, .low, .low, none, some ⟨8, .fall, .low⟩⟩ }
    let row : Instr := .outPulse 1 7 [5, 1, 0, 50]
    (after (exec row (ready bound row))).map (fun t => t.outputs[5]) =
      some ⟨some 1, .high, .low, some ⟨.high, .low, ⟨500, false⟩⟩, some ⟨8, .fall, .low⟩⟩ := by
  decide +kernel

/-! ### Witnesses: the queue, the resets, the taking -/

theorem test_witness_StepTakesTheFrontCommand :
    State.reset.pending = [] ∧
    { State.reset with pending := [.selectFalls 1, .timeWrap 0] }.pending =
      .selectFalls 1 :: [.timeWrap 0] ∧
    (after (step { State.reset with pending := [.selectFalls 1, .timeWrap 0] })).map
      (fun t => (t.pending, t.ports[1].receiver)) = some ([.timeWrap 0], .receiving [] 0) := by
  decide +kernel

theorem test_reset_straps_and_levels :
    (after (exec (.externalReset 0x5 0x8001 0x2) served)).map (fun t =>
      (t.resetCause, t.sessions[2].privilege, t.lines[15].settled, t.lines[14].settled)) =
    some (.external, .supervisor, .high, .low) := by decide +kernel

theorem test_witness_RestartHubIsASoftRestart :
    takesAll served (.restartHub 0 7) [([1], .badArg, []), ([], .ok, [0x03, 0x03, 0x86])] = true ∧
    takesAll served (.restartHub 1 7) [([1], .badArg, []), ([], .privilege, [])] = true := by
  decide +kernel

theorem test_witness_SessionStageRefuses :
    [Instr.attach 0 7 [], .detach 2 7 [], .clearAttention 3 7 []].all Instr.wellFormed = true ∧
    answers served (.attach 0 7 []) .alreadyAttached [] = true ∧
    answers served (.detach 2 7 []) .notAttached [] = true ∧
    answers served (.clearAttention 3 7 []) .lost [] = true := by decide +kernel

theorem test_witness_UnknownCommandIsAnswered :
    (0x00#8 ∉ tableCodes ∧ 0x08#8 ∉ tableCodes ∧ 0xFF#8 ∉ tableCodes) ∧
    answers served (.unknownCommand 2 0x00 7 []) .unknownCommand [] = true ∧
    answers served (.unknownCommand 1 0x08 7 [1, 2]) .unknownCommand [] = true ∧
    answers served (.unknownCommand 3 0xFF 7 []) .unknownCommand [] = true := by decide +kernel

theorem test_witness_RepeatResponseSendsTheStoredResponse :
    let stored : State := { served with ports := served.ports.set 1 { served.ports[1] with
      stored := some ⟨.ok, 9, 77, [1]⟩ } }
    (ready served (.repeatResponse 1 7 [0])).awaits (.repeatResponse 1 7 [0]) = true ∧
    (ready served (.repeatResponse 1 7 [])).awaits (.repeatResponse 1 7 []) = true ∧
    (ready served (.repeatResponse 1 7 [])).ports[1].stored = none ∧
    (ready stored (.repeatResponse 1 7 [])).awaits (.repeatResponse 1 7 []) = true ∧
    (ready stored (.repeatResponse 1 7 [])).ports[1].stored = some ⟨.ok, 9, 77, [1]⟩ := by
  decide +kernel

theorem test_witness_WholeFrameIsTakenAsItsRow :
    (Instr.readTime 3 7 []).wellFormed = true ∧
    (Instr.sendNote 0 7 (List.replicate 200 1)).wellFormed = true ∧
    (Instr.readTime 3 7 []).frame? = some ⟨3, 0x10, 7, []⟩ ∧
    (Instr.sendNote 0 7 (List.replicate 200 1)).frame? = some ⟨0, 0x07, 7, List.replicate 200 1⟩ ∧
    served.ports[3].selectLow = false ∧ served.ports[0].selectLow = false := by decide +kernel

/-- `s` with port 1 selected and its receiver as given. -/
def receiving (s : State) (r : Receiver) : State :=
  { s with ports := s.ports.set 1 { s.ports[1] with selectLow := true, receiver := r } }

theorem test_witness_BadFramesAreCountedAndNotTaken :
    (receiving served (.receiving [0x10, 7] 0)).ports[1].receiver = .receiving [0x10, 7] 0 ∧
    200 < (201#8).toNat ∧ 200 < (255#8).toNat ∧
    (receiving served (.receiving (requestBytes 0x10 7 []) 0)).ports[1].receiver =
      .receiving (requestBytes 0x10 7 []) 0 ∧
    (List.replicate 200 0#8).length ≤ 200 ∧ 1#8 ≠ 0#8 ∧
    (after (exec (.frameError 1 1) (receiving served (.receiving (requestBytes 0x10 7 []) 0)))).map
      (fun t => (t.ports[1].frameErrors, t.ports[1].stored)) = some (1, none) := by decide +kernel

theorem test_witness_SelectEdgesMoveTheReceiver :
    served.ports[1].selectLow = false ∧
    (receiving served (.receiving [0x10] 0)).ports[1].receiver = .receiving [0x10] 0 ∧
    served.ports[1].receiver = .deselected ∧
    (receiving served .deselected).ports[1].receiver = .deselected ∧
    (after (exec (.selectRises 1) (receiving served (.receiving [] 0)))).map
      (fun t => t.ports[1].discarded) = some 0 ∧
    (after (exec (.selectRises 1) (receiving served (.receiving [0x10] 0)))).map
      (fun t => t.ports[1].discarded) = some 1 := by decide +kernel

theorem test_witness_ResponseIsClockedOutInOrder :
    (receiving served (.answering false [0x5A, 1] 4)).ports[1].receiver =
      .answering false [0x5A, 1] 4 ∧
    (receiving served (.answering true ([0, 7] ++ [9]) 0)).ports[1].receiver =
      .answering true [0, 7, 9] 0 ∧
    (after (exec (.byteCompletes 1 0) (receiving served (.answering false [0x5A, 1] 5)))).map
      (fun t => (t.ports[1].sdo, t.ports[1].receiver)) = some (some 0x5A, .answering true [1] 5) ∧
    (after (exec (.responseSent 1) (receiving served (.answering true [] 0)))).isSome = true ∧
    (after (exec (.responseSent 1) (receiving served (.answering false ([0x5A, 1] ++ [9]) 0)))).map
      (fun t => t.ports[1].sdo) = some (some 9) ∧
    (after (exec (.byteCompletes 1 0) (receiving served .finished))).isSome = true ∧
    (after (exec (.byteCompletes 1 0) (receiving served .skipping))).isSome = true := by
  decide +kernel

theorem test_witness_CrcDetectsAnyChangedByte : 0x00#8 ≠ 0xFF#8 ∧ crc8 [0x00] ≠ crc8 [0xFF] := by
  decide +kernel

/-- Whether an outcome is this refusal. -/
def refuses (o : Host.Outcome State Fault Refusal) (why : Refusal) : Bool :=
  match o with
  | .refused r => r == why
  | _ => false

/-- `served` with a qualification of 5 ticks in progress on L0, this many of them gone. -/
def qualifying (elapsed : Nat) (levels : LineSet) : State :=
  { served with sample := levels, lines := served.lines.set 0 { served.lines[0] with
      filter := 5, qualification := some { t0 := 3, filter := 5, elapsed := elapsed } } }

/-- Boundary values of the frame events: the right CRC, an empty and an incomplete frame, a length byte
of 200 and one that is not the third byte; and a code of the table for UNKNOWN_COMMAND. -/
theorem test_witness_EventsThatCannotComeAreRefused_frames :
    (receiving served (.receiving [0x10, 7, 0] 9)).ports[1].receiver = .receiving [0x10, 7, 0] 9 ∧
    refuses (exec (.frameError 1 9) (receiving served (.receiving [0x10, 7, 0] 9)))
      .frameNotReceived = true ∧
    refuses (exec (.frameError 1 8) (receiving served (.receiving [0x10, 7] 9))) .frameNotReceived = true ∧
    refuses (exec (.frameError 1 8) (receiving served (.receiving [0x10, 7, 1] 9)))
      .frameNotReceived = true ∧
    refuses (exec (.frameRefusedForLength 1 200) (receiving served (.receiving [0x10, 7] 9)))
      .cannotReachPort = true ∧
    refuses (exec (.frameRefusedForLength 1 201) (receiving served (.receiving [0x10] 9)))
      .cannotReachPort = true ∧
    refuses (exec (.frameDiscarded 1) (receiving served (.receiving [] 0))) .cannotReachPort = true ∧
    0x01#8 ∈ tableCodes ∧ 0x61#8 ∈ tableCodes := by decide +kernel

/-- The qualification events one tick from due: no edge before its F ticks, no second start, no glitch at
the tick of the start. -/
theorem test_witness_EventsThatCannotComeAreRefused_qualification :
    (qualifying 4 1).lines[0].qualification = some { t0 := 3, filter := 5, elapsed := 4 } ∧
    4 < (5#12).toNat ∧
    (qualifying 0 0).lines[0].qualification = some { t0 := 3, filter := 5, elapsed := 0 } ∧
    refuses (exec (.qualifiedEdge 0) (qualifying 4 1)) .notDue = true ∧
    refuses (exec (.qualificationStart 0) (qualifying 4 1)) .notDue = true ∧
    refuses (exec (.glitch 0) (qualifying 0 0)) .notDue = true ∧
    refuses (exec (.qualifiedEdge 0) (qualifying 5 1)) .notDue = false ∧
    refuses (exec (.glitch 0) (qualifying 1 0)) .notDue = false ∧
    served.lines[0].qualification = none ∧
    { served.lines[0] with filter := 5 }.filter ≠ 0#12 := by decide +kernel

theorem test_witness_EventsThatCannotComeAreRefused :
    (Instr.readTime 1 7 []).frame? = some ⟨1, 0x10, 7, []⟩ ∧
    served.awaits (.readTime 1 7 []) = false ∧
    (receiving served .finished).ports[1].selectLow = true ∧
    served.ports[1].receiver = .deselected ∧ served.eventsDue = true ∧
    ({ hosts with countOwed := true, hubTime := 0xFFFFFFFF }.countOwed = true) ∧
    { served with hubTime := 0xFFFFFFFF }.eventsDue = true ∧ served.countOwed = false ∧
    served.hubTime ≠ 0xFFFFFFFF#32 ∧
    (holds served.sample 0 = true ↔ served.lines[0].settled = .high) ∧
    (holds { served with sample := 1 }.sample 0 = true ↔ served.lines[0].settled = .low) ∧
    served.watches[1].state = .free ∧
    (∀ p ∈ served.outputs[0].pulse, p.count.due = false) ∧
    (∀ c ∈ served.sessions[1].timer, c.due = false) ∧ served.sessions[2].state ≠ .attached := by
  decide +kernel

/-! ### Witnesses: sessions -/

theorem test_witness_AttachOpensASession :
    answers served (.attach 2 7 [0]) .ok [1, 0] = true ∧
    answers served (.attach 3 7 [255]) .ok [5, 0] = true ∧
    answers served (.attach 3 7 []) .badArg [] = true ∧
    answers served (.attach 3 7 [1, 1]) .badArg [] = true ∧
    answers served (.attach 0 7 [1]) .alreadyAttached [] = true := by decide +kernel

/-- `served` with H1's supervision timer at its end. -/
def silent : State :=
  { served with sessions := served.sessions.set 1 { served.sessions[1] with timer := some ⟨1, true⟩ } }

theorem test_witness_DetachAndTimeoutCloseTheSession :
    takesAll served (.detach 1 7) [([], .ok, [1]), ([0], .badArg, [])] = true ∧
    silent.sessions[1].state = .attached ∧ silent.sessions[1].timer = some ⟨1, true⟩ ∧
    (after (exec (.supervisionExpiry 1) silent)).map (fun t => (t.sessions[1].state, t.sessions[1].loss)) =
      some (.lost, .timeout) := by decide +kernel

theorem test_witness_EvictEndsTheTargetsSession :
    takesAll served (.evict 0 7) [([], .badArg, []), ([0], .badArg, []), ([4], .badArg, []),
      ([2], .badState, []), ([3], .badState, []), ([1], .ok, [1])] = true ∧
    takesAll served (.evict 1 7) [([1], .badArg, []), ([0], .privilege, [])] = true ∧
    takes { served with sessions := served.sessions.set 3 { served.sessions[3] with
      privilege := .supervisor } } (.evict 0 7 [3]) .privilege [] = true := by decide +kernel

/-- The session end of H1: its outputs, lines and watch are given back, H0 gets the HOST_LOST record;
that of H0 frees the record that H0 alone holds. -/
theorem test_witness_SessionEndGivesEverythingBack :
    served.HolderLaw ∧ served.QueueLaw ∧ served.FoldLaw ∧
    ((served.endSession 1 .timeout).slots[0].map Record.holders = some 0x1 ∧
      (served.endSession 1 .timeout).slots[2].map Record.kind = some .hostLost ∧
      (served.endSession 1 .timeout).outputs[0] = ⟨none, .low, .low, none, none⟩ ∧
      (served.endSession 1 .timeout).watches[0] = Watch.blank) ∧
    (served.endSession 0 (.evict 1)).slots[1] = none ∧
    (served.endSession 1 .detach).sessions[1].notice = false :=
  ⟨test_served_laws.1, test_served_laws.2.1, test_served_laws.2.2.1, by decide +kernel⟩

/-- A full pool. -/
def fullPool : State :=
  { served with slots := Vector.replicate 64 (some ⟨0, .note, .host 0, 0, .note [1], 0x1, true, none⟩) }

/-- H0's queue full. -/
def fullQueue : State :=
  { served with queues := served.queues.set 0 ⟨List.replicate 32 ⟨0, 0⟩, 0, 0xFFFF, 1⟩ }

theorem test_witness_SendNoteOffersANote :
    takesAll served (.sendNote 1 7) [([], .badArg, []), ([1], .badArg, []),
      ([1, 1, 2, 3, 4, 5, 6, 7, 8, 9], .badArg, []), ([0, 1], .badArg, []), ([0x10, 1], .badArg, []),
      ([0xC, 1], .noTarget, []), ([0xD, 1], .ok, [1, 3, 0x86, 1, 0]),
      ([3, 1, 2, 3, 4, 5, 6, 7, 8], .ok, [1, 3, 0x86, 3, 0])] = true ∧
    takes fullPool (.sendNote 1 7 [1, 1]) .poolFull [] = true ∧
    takes fullQueue (.sendNote 1 7 [1, 1]) .ok [0, 0, 0, 0, 1] = true := by decide +kernel

theorem test_witness_ReadTimeAndHubStatusReport :
    answers served (.readTime 2 7 []) .ok [0, 0, 0x13, 0x88, 0, 3] = true ∧
    answers served (.readTime 2 7 [0]) .badArg [] = true ∧
    answers served (.hubStatus 3 7 []) .ok
      [0, 2, 0, 1, 1, 4, 0, 0x85, 62, 0, 0, 3, 0x86, 0, 3, 0, 0] = true ∧
    answers served (.hubStatus 3 7 [0]) .badArg [] = true := by decide +kernel

/-! ### Witnesses: the Time Base -/

theorem test_witness_AdjustTimeMovesHubTime :
    takesAll served (.adjustTime 0 7) [([], .badArg, []), ([0, 0, 0, 0], .badArg, []),
      ([0xFF, 0xFF, 0xFF, 0xFF], .ok, [0, 0, 0x13, 0x87, 0, 3, 1, 3, 0x86])] = true ∧
    takes served (.adjustTime 1 7 [0, 0, 0, 1]) .privilege [] = true ∧
    takes fullPool (.adjustTime 0 7 [0, 0, 0, 1]) .ok [0, 0, 0x13, 0x89, 0, 3, 0, 0, 0] = true := by
  decide +kernel

/-- `hosts` at this hub time, a count owed or not. -/
def atTime (now : HubTime) (owed : Bool) : State := { hosts with hubTime := now, countOwed := owed }

/-- Hub time and the owed count after a command. -/
def clock (i : Instr) (s : State) : Option (HubTime × Bool) :=
  (after (exec i s)).map fun t => (t.hubTime, t.countOwed)

theorem test_witness_TickCountsEveryMeasure :
    (hosts.eventsDue = false ∧ hosts.countOwed = false) ∧
    ((atTime 8 true).countOwed = true ∧ (atTime 8 true).hubTime ≠ 0xFFFFFFFF#32) ∧
    clock (.tick (.whole 0)) (atTime 0xFFFFFFFE false) = some (0xFFFFFFFF, false) ∧
    clock (.tick (.whole 0)) (atTime 0xFFFFFFFF false) = some (0xFFFFFFFF, true) ∧
    clock (.tick (.handedOut 0)) (atTime 8 false) = some (8, true) ∧
    clock (.tick .counted) (atTime 8 true) = some (9, false) := by decide +kernel

/-- R90: an adjustment by −4 between a tick handed out at 4,294,967,295 and its count takes it away from
the wrap; the count then makes 4,294,967,292 and the epoch stays. -/
theorem test_count_after_adjustment :
    let row : Instr := .adjustTime 0 7 (wordBytes (-4#32))
    ((after (exec row (ready (atTime 0xFFFFFFFF true) row))).bind fun t =>
      (after (exec (.tick .counted) t)).map fun u => (u.hubTime, u.epoch)) = some (0xFFFFFFFC, 3) := by
  decide +kernel

/-- R85, R90: the start of a qualification reads hub time before the tick's count or after it. -/
theorem test_start_before_and_after_the_count :
    ((after (exec (.qualificationStart 2) { served with sample := 4, countOwed := true })).bind fun t =>
      t.lines[2].qualification.map Qualification.t0) = some 5000 ∧
    ((after (exec (.tick .counted) { served with sample := 4, countOwed := true })).bind fun t =>
      (after (exec (.qualificationStart 2) t)).bind fun u =>
        u.lines[2].qualification.map Qualification.t0) = some 5001 := by decide +kernel

theorem test_witness_CountdownsRunTheirFullLength :
    (0 < 1 ∧ 1 ≤ 1) ∧ (Countdown.tick (Countdown.start 1)).due = true ∧
    Countdown.tick (Countdown.start 2) = ⟨1, false⟩ := by decide

theorem test_witness_TimeWrapCountsTheEpoch :
    let last : State := { hosts with hubTime := 0xFFFFFFFF }
    last.hubTime = 0xFFFFFFFF#32 ∧ last.countOwed = false ∧ last.eventsDue = false ∧
    { last with countOwed := true }.countOwed = true ∧
    (after (exec (.timeWrap 0) last)).map (fun t => (t.hubTime, t.epoch)) = some (0, 4) ∧
    (after (exec (.timeWrap 0) { last with countOwed := true })).map
      (fun t => (t.hubTime, t.epoch)) = some (0, 4) := by decide +kernel

theorem test_witness_OnlyCountingMovesTheEpoch :
    (after (exec (.tick (.whole 0)) hosts)).isSome = true ∧
    (after (exec (.timeWrap 0) { hosts with hubTime := 0xFFFFFFFF })).isSome = true ∧
    (∀ straps levels selects, Instr.tick .counted ≠ .powerOnReset straps levels selects) ∧
    (∀ straps levels selects, Instr.tick .counted ≠ .externalReset straps levels selects) :=
  ⟨by decide +kernel, by decide +kernel, fun _ _ _ => by simp, fun _ _ _ => by simp⟩

/-! ### Witnesses: subscriptions, queues and the pool -/

theorem test_witness_SubscriptionsAreReplacedAndRead :
    takesAll served (.subscribeLines 1 7) [([], .badArg, []), ([0, 0, 1], .badArg, []),
      ([0, 1, 4], .badArg, []), ([0xFF, 0xFF, 3], .ok, [0xFF, 0xFF, 0xFF, 0xFF]),
      ([0, 4, 0], .ok, [0, 0, 0, 8])] = true ∧
    takesAll served (.subscribeHub 1 7) [([], .badArg, []), ([4], .badArg, []), ([3], .ok, [3])] = true ∧
    takesAll served (.readSubscriptions 1 7) [([0], .badArg, []), ([], .ok, [0, 4, 0, 8, 0])] = true := by
  decide +kernel

theorem test_witness_ReadEventsReturnsAndShows :
    takesAll served (.readEvents 0 7) [([], .badArg, []), ([32, 1], .badArg, []), ([0, 0], .badArg, []),
      ([0, 9], .badArg, []), ([31, 8], .ok, [2]),
      ([1, 8], .ok, [2, 3, 0x85, 5, 0x21, 0, 0, 0x11, 0x94, 0, 2, 1, 0xAA]),
      ([0, 1], .ok, [2, 3, 0x84, 1, 2, 0, 0, 0x0F, 0xA0, 0, 0, 2, 0, 4])] = true ∧
    ∀ p : List Byte, (ready served (.readEvents 0 7 p)).HolderLaw ∧
      (ready served (.readEvents 0 7 p)).FoldLaw :=
  ⟨by decide +kernel, fun _ => ⟨(test_ready_laws _).1, (test_ready_laws _).2.2.1⟩⟩

theorem test_witness_EventEntriesDecodeUniquely :
    Record.formed ⟨900, .lineRise, .line 2, 4000, .line 4 none, 1, false, none⟩ = true ∧
    Record.formed ⟨901, .note, .host 1, 0, .note [1, 2, 3, 4, 5, 6, 7, 8], 1, true, none⟩ = true ∧
    Record.formed ⟨901, .note, .host 1, 0, .note [1, 2, 3, 4, 5, 6, 7, 8, 9], 1, true, none⟩ = false := by
  decide

theorem test_witness_AckEventsRemovesTheOldest :
    takesAll served (.ackEvents 0 7) [([], .badArg, []), ([0, 0, 0], .badArg, []),
      ([33, 0, 0], .badArg, []), ([32, 0, 0], .noEntry, [2]), ([3, 3, 0x85], .noEntry, [2]),
      ([2, 3, 0x84], .mismatch, [2, 3, 0x85]), ([2, 3, 0x85], .ok, [0]),
      ([1, 3, 0x84], .ok, [1])] = true ∧
    ∀ p : List Byte, (ready served (.ackEvents 0 7 p)).HolderLaw ∧
      (ready served (.ackEvents 0 7 p)).QueueLaw ∧ (ready served (.ackEvents 0 7 p)).FoldLaw :=
  ⟨by decide +kernel, fun _ => ⟨(test_ready_laws _).1, (test_ready_laws _).2.1, (test_ready_laws _).2.2.1⟩⟩

theorem test_witness_QueueStatusReportsAndClears :
    takesAll served (.queueStatus 0 7) [([], .badArg, []), ([2], .badArg, []),
      ([0], .ok, [2, 0, 3, 0, 5, 2]), ([1], .ok, [2, 0, 3, 0, 5, 2])] = true := by decide +kernel

theorem test_witness_OffersAreRoutedByKind :
    served.routing ⟨.lineRise, .line 2, 0, .line 0 none, 0⟩ = 0x3 ∧
    served.routing ⟨.lineFall, .line 3, 0, .line 0 none, 0⟩ = 0x2 ∧
    served.routing ⟨.hostLost, .host 0, 0, .session 1, 0⟩ = 0x0 ∧
    served.routing ⟨.hostLost, .host 1, 0, .session 1, 0⟩ = 0x1 ∧
    served.routing ⟨.timeWrap, .hub, 0, .wrap 1, 0⟩ = 0x1 ∧
    served.routing ⟨.note, .host 1, 0, .note [1], 0xF⟩ = 0x3 := by decide +kernel

theorem test_witness_PoolTakesAnOffer :
    let note : Offer := ⟨.note, .host 1, 0, .note [1], 0x1⟩
    let wrap : Offer := ⟨.timeWrap, .hub, 0, .wrap 1, 0⟩
    served.routing { note with named := 0xC } = 0x0 ∧
    (fullPool.routing note ≠ 0x0 ∧ fullPool.routing wrap ≠ 0x0 ∧
      ∀ i : SlotId, fullPool.slots[i] ≠ none) ∧
    (fullQueue.routing note = 0x1 ∧ 32 ≤ fullQueue.queues[0].entries.length ∧
      fullQueue.slots[2] = none ∧ ∀ j : SlotId, j < 2 → fullQueue.slots[j] ≠ none) ∧
    (served.offer note).2 = .created 2 0x1 0x0 ∧
    (fullQueue.offer { note with named := 0x3 }).2 = .created 2 0x2 0x1 := by decide +kernel

/-! ### Witnesses: lines -/

theorem test_witness_LineConfigureMakesTheCallerOwner :
    takesAll served (.lineConfigure 1 7) [([], .badArg, []), ([16, 1, 0, 0, 0], .badArg, []),
      ([4, 0, 0, 0, 0], .badArg, []), ([4, 4, 0, 0, 0], .badArg, []), ([4, 1, 0x10, 0, 0], .badArg, []),
      ([4, 1, 0, 0, 3], .badArg, []), ([5, 1, 0, 0, 0], .notOwner, []), ([2, 1, 0, 0, 0], .badState, []),
      ([3, 1, 0, 0, 0], .badState, []), ([4, 3, 0x0F, 0xFF, 2], .ok, []), ([15, 2, 0, 0, 1], .ok, [])] =
      true ∧
    takes served (.lineConfigure 0 7 [4, 1, 0, 0, 0]) .ok [] = true ∧
    (∀ p : List Byte, (ready served (.lineConfigure 1 7 p)).FoldLaw) ∧
    [4, 3, 0x0F, 0xFF, 2] = [numberByte 4, 3] ++ halfBytes ((0xFFF#12).setWidth 16) ++ [2] :=
  ⟨by decide +kernel, by decide +kernel, fun _ => (test_ready_laws _).2.2.1, by decide⟩

theorem test_witness_LineArmAndReleaseActOnTheWholeSet :
    takesAll served (.lineArm 1 7) [([0], .badArg, []), ([0, 0], .badArg, []),
      ([0x80, 0x10], .notOwner, []), ([0, 0x14], .badState, []), ([0, 0x10], .ok, [])] = true ∧
    takesAll served (.lineRelease 1 7) [([0], .badArg, []), ([0, 0], .badArg, []),
      ([0x80, 0x10], .notOwner, []), ([0, 0x14], .badState, []), ([0, 0x10], .ok, [])] = true ∧
    takesAll served (.lineRelease 0 7) [([0x80, 0], .badState, []), ([0, 0x30], .ok, [])] = true ∧
    (∀ p : List Byte, (ready served (.lineArm 1 7 p)).FoldLaw ∧
      (ready served (.lineRelease 1 7 p)).FoldLaw) :=
  ⟨by decide +kernel, by decide +kernel, by decide +kernel,
    fun _ => ⟨(test_ready_laws _).2.2.1, (test_ready_laws _).2.2.1⟩⟩

theorem test_witness_LineDisarmWaitsForAQualification :
    takesAll served (.lineDisarm 1 7) [([0], .badArg, []), ([0, 0], .badArg, []),
      ([0, 0x20], .notOwner, []), ([0x80, 0], .badState, []), ([0, 0x1C], .ok, [0, 8]),
      ([0, 4], .ok, [0, 0])] = true := by decide +kernel

theorem test_witness_QualificationsStartAndGlitch :
    let raised : State := { served with sample := 0x0024 }
    (raised.lines[2].qualification = none ∧ raised.lines[2].filter ≠ 0#12 ∧
      (holds raised.sample 2 = true ↔ raised.lines[2].settled = .low)) ∧
    (raised.lines[5].qualification = none ∧ raised.lines[5].filter = 0#12 ∧
      (holds raised.sample 5 = true ↔ raised.lines[5].settled = .low)) ∧
    (after (exec (.qualificationStart 2) raised)).map (fun t => t.lines[2].qualification) =
      some (some ⟨5000, 200, 0⟩) ∧
    (served.lines[3].qualification = some ⟨4995, 5, 5⟩ ∧ 1 ≤ 5 ∧
      (holds served.sample 3 = true ↔ served.lines[3].settled = .high)) := by
  decide +kernel

/-- `served` with L3's qualification at its last tick and the input still changed, and L5 (filter time 0)
just changed. -/
def edges : State := { served with sample := 0x0028 }

theorem test_witness_QualifiedEdgeFlipsAndReports :
    (holds edges.sample 3 = true ↔ edges.lines[3].settled = .low) ∧
    edges.lines[3].qualification = some ⟨4995, 5, 5⟩ ∧ (5#12).toNat ≤ 5 ∧
    (holds edges.sample 5 = true ↔ edges.lines[5].settled = .low) ∧
    edges.lines[5].qualification = none ∧ edges.lines[5].filter = 0#12 ∧
    (after (exec (.qualifiedEdge 3) edges)).map (fun t =>
      (t.lines[3].settled, t.lines[3].state, t.lines[3].lastRise, t.lines[3].edges)) =
      some (.high, .disarmed, some 4995, 1) ∧
    (after (exec (.qualifiedEdge 5) edges)).map (fun t => t.lines[5].lastRise) =
      some (some 5000) := by decide +kernel

/-- A fired output drives the binding's level and loses its pulse; its offer goes to its owner
(R126, R127). -/
theorem test_reflex_fires :
    (served.fireReflexes 2 .rise).outputs[0] = ⟨some 1, .high, .low, none, some ⟨2, .rise, .high⟩⟩ ∧
    (served.fireReflexes 2 .fall).outputs[0] = served.outputs[0] ∧
    served.reflexOffers 2 .rise 5000 = [⟨.reflexFired, .output 0, 5000, .reflex 2 .high, 0x2⟩] := by
  decide +kernel

/-- Under LATEST the record of a fold takes the new edge's timestamp and snapshot; under FIRST it keeps
its own (R20, section 3.4). -/
theorem test_witness_EdgesAreOfferedOrFolded :
    served.FoldLaw ∧ { served with lines := served.lines.set 2 { served.lines[2] with
      policy := .first } }.FoldLaw ∧
    (served.lines[4].policy = .each ∧ served.lines[2].policy ≠ .each ∧
      served.lines[2].foldRise = some 0 ∧ served.lines[2].foldFall = none) ∧
    ((served.recordEdge 2 .rise 5000 0x000C).slots[0].map fun r => (r.timestamp, r.detail)) =
      some (5000, .line 0x000C (some 1)) ∧
    ((served.recordEdge 4 .rise 5000 0x0010).nextSeq = 902 ∧
      (served.recordEdge 2 .fall 5000 0).nextSeq = 902) :=
  ⟨test_served_laws.2.2.1, by decide +kernel, by decide +kernel, by decide +kernel, by decide +kernel⟩

/-! ### Witnesses: watches -/

/-- The WATCH_INSTALL payload of H0 in section 5.8. -/
def installPayload : List Byte := [0x21, 0, 0x30, 0, 0x10, 0, 10, 2, 0, 4, 1, 0x05]

/-- Every watch entry in use. -/
def fullTable : State := { served with watches := Vector.replicate 16 served.watches[0] }

theorem test_witness_WatchInstallTakesTheLowestEntry :
    installPayload = 0x21#8 :: halfBytes 0x30 ++ halfBytes 0x10 ++ halfBytes 10 ++ [2#8] ++ halfBytes 4 ++
      [1#8, (0x5#4).setWidth 8] ∧
    takesAll served (.watchInstall 0 7) [(installPayload, .ok, [1, 0x01]),
      (installPayload.set 2 0, .badArg, []), (installPayload.set 6 0, .badArg, []),
      (installPayload.set 7 0, .badArg, []), (installPayload.set 7 17, .badArg, []),
      (installPayload.set 9 1, .badArg, []), (installPayload.set 9 2, .ok, [1, 0x01]),
      (installPayload.set 9 0, .ok, [1, 0x01]), (installPayload.set 10 2, .badArg, []),
      (installPayload.set 11 0x1F, .badArg, []), (installPayload.set 11 0x0F, .ok, [1, 0x03]),
      (installPayload ++ [0], .badArg, [])] = true ∧
    takes fullTable (.watchInstall 0 7 installPayload) .tableFull [] = true := by decide +kernel

theorem test_witness_WatchCancelFreesTheEntry :
    takesAll served (.watchCancel 1 7) [([], .badArg, []), ([16], .badArg, []), ([15], .noEntry, []),
      ([0], .ok, [1, 1, 0x21])] = true ∧
    takesAll served (.watchCancel 0 7) [([0], .ok, [1, 1, 0x21])] = true ∧
    takes { served with watches := served.watches.set 0 { served.watches[0] with owner := some 0 } }
      (.watchCancel 1 7 [0]) .notOwner [] = true := by decide +kernel

/-- `served` with entry 0 in the given state and counts, checked at these settled levels of L4. -/
def checked (state : WatchState) (checks : Half) (consecutive : Byte) (level : Level) : State :=
  { served with
    watches := served.watches.set 0
      { served.watches[0] with
        state := state
        checks := checks
        consecutive := consecutive
        mode := .repeating }
    lines := served.lines.set 4 { served.lines[4] with settled := level } }

/-- What entry 0 is after its check: its state, checks made and consecutive matches. -/
def entryAfter (s : State) : Option (WatchState × Half × Byte) :=
  (after (exec (.checkExpiry 0) s)).map fun t =>
    (t.watches[0].state, t.watches[0].checks, t.watches[0].consecutive)

/-- Each outcome of a check (K = 2, D = 4), the premises among them (R100 to R104). -/
theorem test_witness_CheckExpiryMakesOneCheck :
    (served.watches[0].state ≠ .free ∧ served.watches[0].ticks = 0 ∧
      served.watches[0].owner = some 1 ∧ served.isAttached 1 = true) ∧
    (∀ l : LineId, holds (0x10#16) l = true ↔
      holds (0x30#16) l = true ∧ (checked .waiting 0 0 .high).lines[l].settled = .high) ∧
    [checked .waiting 0 0 .high, checked .waiting 0 0 .low, checked .confirming 1 1 .low,
      checked .confirming 3 1 .high, checked .waiting 3 0 .high, checked .waiting 3 0 .low,
      checked .rearming 4 0 .high, checked .rearming 4 0 .low].map entryAfter =
      [some (.confirming, 1, 1), some (.waiting, 1, 0), some (.waiting, 2, 0), some (.rearming, 4, 0),
        some (.free, 0, 0), some (.free, 0, 0), some (.rearming, 4, 0), some (.waiting, 0, 0)] := by
  decide +kernel

/-! ### Witnesses: outputs and attention -/

theorem test_witness_OutputSetsAreClaimedReleasedAndDriven :
    takesAll served (.outClaim 1 7) [([], .badArg, []), ([0], .badArg, []), ([2], .held, []),
      ([0x81], .ok, [0x81])] = true ∧
    takesAll served (.outRelease 1 7) [([], .badArg, []), ([0], .badArg, []), ([0x81], .notOwner, []),
      ([1], .ok, [1])] = true ∧
    takesAll served (.outDrive 1 7) [([1], .badArg, []), ([0, 0], .badArg, []), ([2, 2], .notOwner, []),
      ([1, 1], .busy, [])] = true ∧
    takesAll served (.outDrive 0 7) [([2, 0xFF], .ok, [3]), ([2, 0], .ok, [1])] = true := by
  decide +kernel

theorem test_witness_PulsesDriveAndReturn :
    takesAll served (.outPulse 0 7) [([], .badArg, []), ([8, 1, 0, 1], .badArg, []),
      ([1, 2, 0, 1], .badArg, []), ([1, 1, 0, 0], .badArg, []), ([1, 0, 0, 1], .badArg, []),
      ([0, 0, 0, 1], .notOwner, []), ([7, 1, 0, 1], .notOwner, []),
      ([1, 1, 0xFF, 0xFF], .ok, [])] = true ∧
    takes served (.outPulse 1 7 [0, 0, 0, 1]) .busy [] = true ∧
    (let ended : State := { served with outputs := served.outputs.set 0 { served.outputs[0] with
      pulse := some ⟨.high, .low, ⟨1, true⟩⟩ } }
    (after (exec (.pulseExpiry 0) ended)).map (fun t => (t.outputs[0].drive, t.outputs[0].pulse)) =
      some (.low, none)) := by decide +kernel

theorem test_witness_BindingsAreSetAndRemoved :
    takesAll served (.outBind 1 7) [([], .badArg, []), ([8, 0, 1, 0], .badArg, []),
      ([0, 16, 1, 0], .badArg, []), ([0, 0, 0, 0], .badArg, []), ([0, 0, 3, 0], .badArg, []),
      ([0, 0, 1, 2], .badArg, []), ([1, 0, 1, 0], .notOwner, []), ([0, 15, 2, 1], .ok, [1])] = true ∧
    takes served (.outBind 0 7 [1, 0, 1, 0]) .ok [0] = true ∧
    takesAll served (.outUnbind 1 7) [([], .badArg, []), ([8], .badArg, []), ([7], .notOwner, []),
      ([0], .ok, [1])] = true ∧
    takes served (.outUnbind 0 7 [1]) .ok [0] = true := by decide +kernel

theorem test_witness_OutSeizeTakesFromOrdinaryHosts :
    takesAll served (.outSeize 0 7) [([], .badArg, []), ([0], .badArg, []), ([0xFF], .ok, [1, 1]),
      ([2], .ok, [0, 0])] = true ∧
    takes served (.outSeize 1 7 [2]) .privilege [] = true ∧
    takes { served with sessions := served.sessions.set 1 { served.sessions[1] with
      privilege := .supervisor } } (.outSeize 0 7 [1]) .privilege [] = true ∧
    ∀ p : List Byte, ∀ (o : OutputId) (g : HostId),
      (ready served (.outSeize 0 7 p)).outputs[o].owner = some g →
        (ready served (.outSeize 0 7 p)).isAttached g = true :=
  ⟨by decide +kernel, by decide +kernel, by decide +kernel, fun _ => (test_ready_laws _).2.2.2⟩

theorem test_witness_OutSafeMovesUnownedOutputs :
    takesAll served (.outSafe 0 7) [([1], .badArg, []), ([0, 1], .badArg, []),
      ([0x83, 0x82], .ok, [0x82])] = true ∧
    takes served (.outSafe 1 7 [1, 1]) .privilege [] = true := by decide +kernel

theorem test_witness_StatusCommandsReport :
    takesAll served (.lineStatus 1 7) [([], .badArg, []), ([16], .badArg, []),
      ([3], .ok, [3, 1, 2, 0, 9, 0, 2, 0, 0, 0x13, 0x83, 0, 5, 0, 0, 0, 0, 0, 0, 0, 0, 0, 0, 0, 0,
        0, 0])] = true ∧
    takesAll served (.watchRead 1 7) [([], .badArg, []), ([16], .badArg, []),
      ([0], .ok, [1, 1, 0x21, 0, 0x30, 0, 0x10, 0, 10, 2, 0, 4, 0, 3, 0, 0, 0, 0, 0, 0, 0]),
      ([15], .ok, [0, 0xFF, 0, 0, 0, 0, 0, 0, 0, 0, 0, 0, 0, 0, 0, 0, 0, 0, 0, 0, 0])] = true ∧
    takesAll served (.outStatus 1 7) [([0], .badArg, []),
      ([], .ok, [1, 0x5D, 0, 0, 0, 20, 2, 0, 0, 0, 0, 0, 0, 0xFF] ++
        (List.replicate 6 [0xFF, 0, 0, 0, 0, 0, 0xFF]).flatten)] = true := by decide +kernel

theorem test_witness_AttentionIsSetAndCleared :
    takesAll served (.setAttention 1 7) [([], .badArg, []), ([0x20, 1], .badArg, []),
      ([0, 0], .badArg, []), ([0, 33], .badArg, []), ([0x1F, 32], .ok, [0x1F, 32, 3])] = true ∧
    takesAll served (.clearAttention 1 7) [([], .badArg, []), ([0x20], .badArg, []),
      ([0x1F], .ok, [3, 0x16])] = true := by decide +kernel

/-! ### Witnesses: the laws and the whole-machine rules -/

/-- A DETACH of H1 in front: the premises of the laws of the pool, the queues and the folds that every
step keeps, with a next state. -/
theorem test_witness_StepKeepsTheLaws :
    let row : Instr := .detach 1 7 []
    (after (step { ready served row with pending := [row] })).isSome = true ∧
    { ready served row with pending := [row] }.HolderLaw ∧
    { ready served row with pending := [row] }.QueueLaw ∧
    { ready served row with pending := [row] }.FoldLaw :=
  ⟨by decide +kernel, (test_ready_laws (.detach 1 7 [])).1, (test_ready_laws (.detach 1 7 [])).2.1,
    (test_ready_laws (.detach 1 7 [])).2.2.1⟩

/-- The laws of lines, watches, sessions, attention and records, at a CHECK_EXPIRY that is due. -/
theorem test_witness_StepKeepsTheOtherLaws :
    (after (step { served with pending := [.checkExpiry 0] })).isSome = true ∧
    { served with pending := [.checkExpiry 0] }.LineLaw ∧
    { served with pending := [.checkExpiry 0] }.WatchLaw ∧
    { served with pending := [.checkExpiry 0] }.SessionLaw ∧
    { served with pending := [.checkExpiry 0] }.NoticeLaw ∧
    { served with pending := [.checkExpiry 0] }.AttentionLaw ∧
    { served with pending := [.checkExpiry 0] }.RecordLaw :=
  ⟨by decide +kernel, test_served_laws.2.2.2.1, test_served_laws.2.2.2.2.1,
    test_served_laws.2.2.2.2.2.2.2.1, test_served_laws.2.2.2.2.2.2.2.2.1,
    test_served_laws.2.2.2.2.2.2.2.2.2.1, test_served_laws.2.2.2.2.2.2.2.2.2.2.2.1⟩

theorem test_witness_StepKeepsTheOutputWatchAndPortLaws :
    (after (step { served with pending := [.selectFalls 1] })).isSome = true ∧
    (∀ w : WatchId, { served with pending := [.selectFalls 1] }.watches[w].CountLaw) ∧
    (∀ o : OutputId, { served with pending := [.selectFalls 1] }.outputs[o].OwnerLaw ∧
      { served with pending := [.selectFalls 1] }.outputs[o].PulseLaw) ∧
    (∀ h : HostId, { served with pending := [.selectFalls 1] }.ports[h].Law) :=
  ⟨by decide +kernel, test_served_laws.2.2.2.2.2.1, test_served_laws.2.2.2.2.2.2.1,
    test_served_laws.2.2.2.2.2.2.2.2.2.2.1⟩

/-- An ACK_EVENTS that removes an entry, and a note that joins one. -/
theorem test_witness_QueuesKeepCreationOrder :
    (let row : Instr := .ackEvents 0 7 [1, 3, 0x84]
    (after (exec row (ready served row))).map (fun t => t.queues[0].entries) = some [⟨1, 2⟩]) ∧
    (let row : Instr := .sendNote 1 7 [1, 9]
    (after (exec row (ready served row))).map (fun t => t.queues[0].entries) =
      some [⟨0, 0⟩, ⟨1, 2⟩, ⟨2, 3⟩]) := by decide +kernel

/-- Slot 1 holds a SHOWN record, and H1's session end goes on. -/
theorem test_witness_ShownContentNeverChanges :
    let row : Instr := .detach 1 7 []
    (ready served row).FoldLaw ∧ ((ready served row).slots[1].map Record.shown) = some true ∧
    (after (exec row (ready served row))).isSome = true :=
  ⟨(test_ready_laws (.detach 1 7 [])).2.2.1, by decide +kernel, by decide +kernel⟩

/-- H1 is ORDINARY, O1 and L5 are H0's, and a request of H1 is carried out. -/
theorem test_witness_OrdinaryHostsCannotDisturbOthers :
    let row : Instr := .outRelease 1 7 [1]
    row.frame? = some ⟨1, 0x51, 7, [1]⟩ ∧ (after (exec row (ready served row))).isSome = true ∧
    (ready served row).sessions[1].privilege = .ordinary ∧
    (ready served row).outputs[1].owner = some 0 ∧ (ready served row).lines[5].owner = some 0 ∧
    ({ served with watches := served.watches.set 0 { served.watches[0] with
      owner := some 0 } }.watches[0].owner = some 0) := by decide +kernel

end Sys2Proof.Tests
end

section
/-!
SUPPORT. Each operation of the pool by slot, by entry and by fold reference, in every state, and the changes
that no law of the pool sees.
-/

namespace Sys2Proof.Machine

variable {s t u : State}

/-! ### Slots, entries and fold references, operation by operation -/

theorem shownSlot_eq_map (slot : Option Record) :
    shownSlot slot = slot.map fun r => { r with shown := true, foldTarget := none } := by
  cases slot <;> rfl

/-- What a change of some records keeps of every record, it keeps of every slot. -/
theorem slot_map_kept {α : Type} {f : Record → α} {change : Record → Record}
    (kept : ∀ r, f (change r) = f r) (p : Prop) [Decidable p] (slot : Option Record) :
    (if p then slot.map change else slot).map f = slot.map f := by
  split
  · rw [Option.map_map]
    exact congrArg (Option.map · slot) (funext kept)
  · rfl

/-- What a showing makes of each slot (R19). -/
theorem showRecord_slot (s : State) (i j : SlotId) :
    (s.showRecord i).slots[j] = if j = i then shownSlot s.slots[j] else s.slots[j] := by
  unfold State.showRecord
  split
  · rename_i free
    split
    · rename_i e; subst e; rw [free]; rfl
    · rfl
  · rename_i r used
    rw [giveUp_slots]
    split
    · rename_i e; subst e; rw [used]; rfl
    · rfl

/-- What a holder removal makes of each slot (R24). -/
theorem removeHolder_slot (s : State) (i : SlotId) (h : HostId) (j : SlotId) :
    (s.removeHolder i h).slots[j] = if j = i then dropHolder h s.slots[j] else s.slots[j] := by
  unfold State.removeHolder
  split
  · rename_i free
    split
    · rename_i e; subst e; rw [free]; rfl
    · rfl
  · rename_i r used
    dsimp only
    split
    · rename_i last
      rw [giveUp_slots]
      split
      · rename_i e; subst e; rw [used]; simp only [dropHolder, last, if_true]
      · rfl
    · rename_i left
      rw [setSlot_getElem]
      split
      · rename_i e; subst e; rw [used]; simp only [dropHolder, left, if_false]
      · rfl

/-- What dropping a fold reference makes of each slot (R23). -/
theorem dropFoldRef_slot (s : State) (l : LineId) (k : EdgeKind) (j : SlotId) :
    (s.dropFoldRef l k).slots[j] =
      if s.lines[l].foldRef k = some j then s.slots[j].map fun r => { r with foldTarget := none }
      else s.slots[j] := by
  unfold State.dropFoldRef
  split
  · rename_i absent
    rw [absent]; rfl
  · rename_i i present
    rw [present]
    dsimp only
    split
    · rename_i free
      rw [setLine_slots] at free ⊢
      split
      · rename_i e; obtain rfl : i = j := Option.some.inj e
        rw [free]; rfl
      · rfl
    · rename_i r used
      rw [setLine_slots] at used
      rw [setSlot_getElem]
      by_cases e : j = i
      · subst e; rw [used]; simp
      · rw [if_neg e, if_neg fun x => e (Option.some.inj x).symm]; rfl

/-- What dropping a fold reference leaves of each fold reference (R72). -/
theorem dropFoldRef_ref (s : State) (l m : LineId) (k k' : EdgeKind) :
    (s.dropFoldRef l k).lines[m].foldRef k' =
      if m = l ∧ k' = k then none else s.lines[m].foldRef k' := by
  have cleared : (s.setLine l (s.lines[l].setFoldRef k none)).lines[m].foldRef k' =
      if m = l ∧ k' = k then none else s.lines[m].foldRef k' := by
    rw [setLine_getElem]
    by_cases em : m = l
    · subst em
      by_cases ek : k' = k
      · subst ek; simp
      · simp [ek, setFoldRef_foldRef_other _ none ek]
    · simp [em]
  unfold State.dropFoldRef
  split
  · rename_i absent
    split
    · rename_i e; rw [e.1, e.2]; exact absent
    · rfl
  · dsimp only
    split <;> exact cleared

/-- What becoming a fold target makes of each slot (R17). -/
theorem setFoldTarget_slot (s : State) (i : SlotId) (l : LineId) (k : EdgeKind) (j : SlotId) :
    (s.setFoldTarget i l k).slots[j] =
      if j = i then s.slots[j].map fun r => { r with foldTarget := some (l, k) } else s.slots[j] := by
  unfold State.setFoldTarget
  dsimp only
  split
  · rename_i free
    rw [setLine_slots] at free ⊢
    split
    · rename_i e; subst e; rw [free]; rfl
    · rfl
  · rename_i r used
    rw [setLine_slots] at used
    rw [setSlot_getElem]
    split
    · rename_i e; subst e; rw [used]; rfl
    · rfl

/-- What becoming a fold target makes of the lines (R17). -/
theorem setFoldTarget_lines (s : State) (i : SlotId) (l : LineId) (k : EdgeKind) :
    (s.setFoldTarget i l k).lines = s.lines.set l.val (s.lines[l].setFoldRef k (some i)) := by
  unfold State.setFoldTarget
  dsimp only
  split <;> rfl

/-- What a fold makes of each slot (R20). -/
theorem foldRecord_slot (s : State) (i : SlotId) (policy : Policy) (t0 : HubTime)
    (snapshot : LineSet) (j : SlotId) :
    (s.foldRecord i policy t0 snapshot).slots[j] =
      if j = i then s.slots[j].map fun r => r.fold policy t0 snapshot else s.slots[j] := by
  unfold State.foldRecord
  split
  · rename_i free
    split
    · rename_i e; subst e; rw [free]; rfl
    · rfl
  · rename_i r used
    rw [setSlot_getElem]
    split
    · rename_i e; subst e; rw [used]; rfl
    · rfl

/-- A fold changes a record's timestamp and detail alone, and not the form of its detail (R20). -/
theorem fold_keeps (r : Record) (policy : Policy) (t0 : HubTime) (snapshot : LineSet) :
    ∃ timestamp detail, r.fold policy t0 snapshot = { r with timestamp := timestamp, detail := detail } ∧
      (r.fold policy t0 snapshot).formed = r.formed := by
  unfold Record.fold
  split
  · rename_i kept count line
    have formed : ∀ (timestamp : HubTime) (kept' : LineSet) (count' : Option Half),
        { r with timestamp := timestamp, detail := .line kept' count' }.formed = r.formed := by
      intro timestamp kept' count'
      simp only [Record.formed, line]
      cases r.kind <;> cases r.source <;> rfl
    split
    · exact ⟨_, _, rfl, formed _ _ _⟩
    · exact ⟨_, _, rfl, formed _ _ _⟩
  · exact ⟨_, _, rfl, rfl⟩

/-- A fold into the record of an edge (R20). -/
theorem fold_line {r : Record} {kept : LineSet} {count : Option Half} (line : r.detail = .line kept count)
    (policy : Policy) (t0 : HubTime) (snapshot : LineSet) :
    r.fold policy t0 snapshot =
      if policy = .latest then
        { r with timestamp := t0, detail := .line snapshot (some (nextFoldCount count)) }
      else { r with detail := .line kept (some (nextFoldCount count)) } := by
  simp only [Record.fold, line]

/-- A record in use that becomes a fold target (R17). -/
theorem setFoldTarget_used {i : SlotId} {r : Record} (used : s.slots[i] = some r) (l : LineId)
    (k : EdgeKind) : s.setFoldTarget i l k = { s with
      slots := s.slots.set i.val (some { r with foldTarget := some (l, k) })
      lines := s.lines.set l.val (s.lines[l].setFoldRef k (some i)) } := by
  have same : (s.setLine l (s.lines[l].setFoldRef k (some i))).slots[i] = some r := used
  unfold State.setFoldTarget
  dsimp only
  rw [same]
  rfl

/-- A showing changes slots and lines alone. -/
theorem showRecord_frame (s : State) (i : SlotId) :
    s.showRecord i = { s with slots := (s.showRecord i).slots, lines := (s.showRecord i).lines } := by
  unfold State.showRecord
  split
  · rfl
  · rw [clearFoldRef_frame]; rfl

/-- A holder removal changes slots and lines alone. -/
theorem removeHolder_frame (s : State) (i : SlotId) (h : HostId) :
    s.removeHolder i h =
      { s with slots := (s.removeHolder i h).slots, lines := (s.removeHolder i h).lines } := by
  unfold State.removeHolder
  split
  · rfl
  · dsimp only
    split
    · rw [clearFoldRef_frame]; rfl
    · rfl

/-- Dropping a fold reference changes slots and lines alone. -/
theorem dropFoldRef_frame (s : State) (l : LineId) (k : EdgeKind) :
    s.dropFoldRef l k =
      { s with slots := (s.dropFoldRef l k).slots, lines := (s.dropFoldRef l k).lines } := by
  unfold State.dropFoldRef
  split
  · rfl
  · dsimp only
    split <;> rfl

/-- Becoming a fold target changes slots and lines alone. -/
theorem setFoldTarget_frame (s : State) (i : SlotId) (l : LineId) (k : EdgeKind) :
    s.setFoldTarget i l k =
      { s with slots := (s.setFoldTarget i l k).slots, lines := (s.setFoldTarget i l k).lines } := by
  unfold State.setFoldTarget
  dsimp only
  split <;> rfl

/-- A fold changes slots alone. -/
theorem foldRecord_frame (s : State) (i : SlotId) (policy : Policy) (t0 : HubTime)
    (snapshot : LineSet) :
    s.foldRecord i policy t0 snapshot =
      { s with slots := (s.foldRecord i policy t0 snapshot).slots } := by
  unfold State.foldRecord
  split <;> rfl

/-- The removal of a queue's head changes slots, lines and the queue alone. -/
theorem removeHead_frame (s : State) (h : HostId) :
    s.removeHead h = { s with
      slots := (s.removeHead h).slots, lines := (s.removeHead h).lines
      queues := (s.removeHead h).queues } := by
  unfold State.removeHead
  split
  · rfl
  · rw [removeHolder_frame]; rfl

theorem setQueue_getElem (s : State) (h g : HostId) (q : Queue) :
    (s.setQueue h q).queues[g] = if g = h then q else s.queues[g] := by
  by_cases e : g = h
  · subst e; simp
  · have : h.val ≠ g.val := fun x => e (Fin.ext x.symm)
    simp [e, Vector.getElem_set_ne _ _ this]

theorem setPort_getElem (s : State) (h g : HostId) (p : Port) :
    (s.setPort h p).ports[g] = if g = h then p else s.ports[g] := by
  by_cases e : g = h
  · subst e; simp
  · have : h.val ≠ g.val := fun x => e (Fin.ext x.symm)
    simp [e, Vector.getElem_set_ne _ _ this]

/-- The removal of a queue's head leaves its rest, and every other queue (R48). -/
theorem removeHead_entries (s : State) (h g : HostId) :
    (s.removeHead h).queues[g].entries =
      if g = h then s.queues[g].entries.tail else s.queues[g].entries := by
  unfold State.removeHead
  split
  · rename_i empty
    split
    · rename_i e; subst e; rw [empty]; rfl
    · rfl
  · rename_i e rest found
    have queues : ((s.setQueue h { s.queues[h] with entries := rest }).removeHolder e.slot h).queues =
        (s.setQueue h { s.queues[h] with entries := rest }).queues := by rw [removeHolder_frame]
    simp only [queues, setQueue_getElem]
    split
    · rename_i eg; subst eg; rw [found]; rfl
    · rfl

/-- What is left of a queue when its `n` oldest entries are removed (R48). -/
theorem removeOldest_entries (s : State) (h : HostId) (n : Nat) :
    (s.removeOldest h n).queues[h].entries = s.queues[h].entries.drop n := by
  induction n generalizing s with
  | zero => rfl
  | succ n ih => rw [State.removeOldest, ih, removeHead_entries, if_pos rfl, List.drop_tail]

/-- The removal of a queue's head leaves each slot's record, frees it, or takes a holder from it. -/
theorem removeHead_slot (s : State) (h : HostId) (j : SlotId) :
    (s.removeHead h).slots[j] = none ∨
    ∃ holders : Record → HostSet,
      (s.removeHead h).slots[j] = s.slots[j].map fun r => { r with holders := holders r } := by
  have same : s.slots[j] = s.slots[j].map fun r => { r with holders := r.holders } := by
    cases s.slots[j] <;> rfl
  unfold State.removeHead
  split
  · exact .inr ⟨Record.holders, same⟩
  · rw [removeHolder_slot, setQueue_slots]
    split
    · cases s.slots[j] with
      | none => exact .inl rfl
      | some r =>
        simp only [dropHolder]
        split
        · exact .inl rfl
        · exact .inr ⟨fun r : Record => without r.holders h, rfl⟩
    · exact .inr ⟨Record.holders, same⟩

/-- Holder removals leave a record's content, or free it. -/
theorem removeOldest_slot (s : State) (h : HostId) (n : Nat) (j : SlotId) :
    (s.removeOldest h n).slots[j] = none ∨
    ∃ holders : Record → HostSet,
      (s.removeOldest h n).slots[j] = s.slots[j].map fun r => { r with holders := holders r } := by
  induction n generalizing s with
  | zero =>
    refine .inr ⟨Record.holders, ?_⟩
    change s.slots[j] = _
    cases s.slots[j] <;> rfl
  | succ n ih =>
    rcases ih (s.removeHead h) with free | ⟨holders, slot⟩
    · exact .inl free
    rcases removeHead_slot s h j with free | ⟨holders', slot'⟩
    · rw [free] at slot
      exact .inl slot
    · rw [slot', Option.map_map] at slot
      exact .inr ⟨_, slot⟩

theorem removeOldest_nextSeq (s : State) (h : HostId) (n : Nat) :
    (s.removeOldest h n).nextSeq = s.nextSeq := by
  induction n generalizing s with
  | zero => rfl
  | succ n ih => rw [State.removeOldest, ih, removeHead_frame]

/-! ### Changes that no law of the pool sees -/

/-- What the laws of the pool, of the queues' entries, of the fold references and of the ports read is
the same in both states. -/
structure Quiet (s t : State) : Prop where
  slots : t.slots = s.slots
  nextSeq : t.nextSeq = s.nextSeq
  entries : ∀ h : HostId, t.queues[h].entries = s.queues[h].entries
  refs : ∀ (l : LineId) (k : EdgeKind), t.lines[l].foldRef k = s.lines[l].foldRef k
  ports : t.ports = s.ports

theorem Quiet.refl : Quiet s s := ⟨rfl, rfl, fun _ => rfl, fun _ _ => rfl, rfl⟩

theorem Quiet.trans (a : Quiet s t) (b : Quiet t u) : Quiet s u where
  slots := b.slots.trans a.slots
  nextSeq := b.nextSeq.trans a.nextSeq
  entries h := (b.entries h).trans (a.entries h)
  refs l k := (b.refs l k).trans (a.refs l k)
  ports := b.ports.trans a.ports

/-- A change outside slots, sequence, queues, lines and ports is quiet. -/
theorem Quiet.of_fields (slots : t.slots = s.slots) (nextSeq : t.nextSeq = s.nextSeq)
    (queues : t.queues = s.queues) (lines : t.lines = s.lines) (ports : t.ports = s.ports) :
    Quiet s t :=
  ⟨slots, nextSeq, fun h => by rw [queues], fun l k => by rw [lines], ports⟩

/-- A queue changed in another item than its entries. -/
theorem Quiet.of_setQueue {h : HostId} {q : Queue} (same : q.entries = s.queues[h].entries) :
    Quiet s (s.setQueue h q) where
  slots := rfl
  nextSeq := rfl
  entries g := by
    rw [setQueue_getElem]
    split
    · rename_i e; rw [e]; exact same
    · rfl
  refs _ _ := rfl
  ports := rfl

/-- A line changed in another item than its fold references. -/
theorem Quiet.of_setLine {l : LineId} {x : Line}
    (same : ∀ k, x.foldRef k = s.lines[l].foldRef k) : Quiet s (s.setLine l x) where
  slots := rfl
  nextSeq := rfl
  entries _ := rfl
  refs m k := by
    rw [setLine_getElem]
    split
    · rename_i e; rw [e]; exact same k
    · rfl
  ports := rfl

theorem mapLines_getElem (s : State) (named : LineSet) (f : Line → Line) (l : LineId) :
    (s.mapLines named f).lines[l] = if holds named l then f s.lines[l] else s.lines[l] := by
  simp [State.mapLines]

/-- The lines of a set changed in another item than their fold references. -/
theorem Quiet.of_mapLines {named : LineSet} {f : Line → Line}
    (same : ∀ l : LineId, holds named l = true → ∀ k, (f s.lines[l]).foldRef k = s.lines[l].foldRef k) :
    Quiet s (s.mapLines named f) := by
  refine ⟨mapLines_slots .., mapLines_nextSeq .., fun h => by rw [mapLines_queues], fun l k => ?_,
    mapLines_ports ..⟩
  rw [mapLines_getElem]
  split
  · rename_i member
    exact same l member k
  · rfl

theorem Quiet.of_chargeMisses (s : State) (hosts : HostSet) : Quiet s (s.chargeMisses hosts) where
  slots := rfl
  nextSeq := rfl
  entries h := by
    simp only [State.chargeMisses, Fin.getElem_fin, Vector.getElem_ofFn]
    split <;> rfl
  refs _ _ := rfl
  ports := rfl

/-! ### Offers, by slot and by entry -/

/-- `t` is `s` with the record of offer `o` created in slot `i` for `recipients` (R16). -/
structure Created (s : State) (o : Offer) (i : SlotId) (recipients : HostSet) (t : State) : Prop where
  free : s.slots[i] = none
  some_recipient : recipients ≠ 0#4
  room : ∀ h : HostId, holds recipients h = true → s.queues[h].entries.length < 32
  slots : ∀ j : SlotId, t.slots[j] = if j = i then some (o.record s.nextSeq recipients) else s.slots[j]
  nextSeq : t.nextSeq = s.nextSeq + 1#16
  entries : ∀ h : HostId, t.queues[h].entries =
    if holds recipients h then
      s.queues[h].entries ++ [⟨i, (s.chargeMisses (s.fullQueues (s.routing o))).queues[h].pendingMisses⟩]
    else s.queues[h].entries
  lines : t.lines = s.lines
  ports : t.ports = s.ports

/-- An offer creates its record, or changes nothing that a law of the pool sees. -/
theorem offer_quiet_or_created (s : State) (o : Offer) :
    ((∀ i recipients missed, (s.offer o).2 ≠ .created i recipients missed) ∧
      Quiet s (s.offer o).1) ∨
    (∃ i recipients missed, (s.offer o).2 = .created i recipients missed ∧
      Created s o i recipients (s.offer o).1) := by
  rcases offer_cases s o with ⟨_, e⟩ | ⟨_, _, _, e⟩ | ⟨_, _, _, e⟩ | ⟨_, _, _, _, e⟩ |
    ⟨i, _, free, nonempty, e⟩
  case inr.inr.inr.inr =>
    refine .inr ⟨i, _, _, by rw [e], ?_⟩
    rw [e]
    have misses := Quiet.of_chargeMisses s (s.fullQueues (s.routing o))
    generalize hc : s.chargeMisses (s.fullQueues (s.routing o)) = charged at misses
    exact
      { free := freeSlot?_free free
        some_recipient := nonempty
        room := fun h recipient => by
          simp only [holds_and, holds_not, State.fullQueues, holds_setOf, Queue.isFull,
            Bool.and_eq_true, Bool.not_and, Bool.or_eq_true, Bool.not_eq_true',
            decide_eq_false_iff_not] at recipient
          obtain ⟨routed, unrouted | room⟩ := recipient
          · rw [routed] at unrouted; cases unrouted
          · exact Nat.lt_of_not_le room
        slots := fun j => by
          rw [← hc]
          exact setSlot_getElem (s.chargeMisses _) i j _
        nextSeq := by rw [← hc]; rfl
        entries := fun h => by
          simp only [hc]
          rw [← misses.entries h]
          simp only [State.create, State.joinQueues, Fin.getElem_fin, Vector.getElem_ofFn]
          split <;> rfl
        lines := by rw [← hc]; rfl
        ports := by rw [← hc]; rfl }
  all_goals refine .inl ⟨by rw [e]; nofun, ?_⟩; rw [e]
  · exact .refl
  · exact .refl
  · exact (Quiet.of_chargeMisses _ _).trans (.of_fields rfl rfl rfl rfl rfl)
  · exact Quiet.of_chargeMisses _ _

/-- An offer whose result is a creation has created its record. -/
theorem created_of_result {o : Offer} {i : SlotId} {recipients missed : HostSet}
    (result : (s.offer o).2 = .created i recipients missed) : Created s o i recipients (s.offer o).1 := by
  rcases offer_quiet_or_created s o with ⟨none', _⟩ | ⟨_, _, _, result', created⟩
  · exact absurd result (none' _ _ _)
  · rw [result] at result'
    cases result'
    exact created

/-! ### Edges, by case -/

/-- The record part of a report, by case: the edge is offered; or it is offered, a record is created and
becomes the fold target; or it folds into the record that the fold reference names (R17, R70, R71). -/
theorem recordEdge_cases (s : State) (l : LineId) (k : EdgeKind) (t0 : HubTime) (snapshot : LineSet) :
    ((s.lines[l].policy = .each ∨ s.lines[l].foldRef k = none ∧
        ∀ i recipients missed, (s.offer (edgeOffer l k t0 snapshot)).2 ≠ .created i recipients missed) ∧
      s.recordEdge l k t0 snapshot = (s.offer (edgeOffer l k t0 snapshot)).1) ∨
    (∃ i recipients missed, s.lines[l].policy ≠ .each ∧ s.lines[l].foldRef k = none ∧
      (s.offer (edgeOffer l k t0 snapshot)).2 = .created i recipients missed ∧
      s.recordEdge l k t0 snapshot =
        (s.offer (edgeOffer l k t0 snapshot)).1.setFoldTarget i l k) ∨
    (∃ i, s.lines[l].policy ≠ .each ∧ s.lines[l].foldRef k = some i ∧
      s.recordEdge l k t0 snapshot = s.foldRecord i s.lines[l].policy t0 snapshot) := by
  have each : s.lines[l].policy = .each →
      s.offerEdge l k t0 snapshot = (s.offer (edgeOffer l k t0 snapshot)).1 := by
    intro e
    unfold State.offerEdge
    dsimp only
    split
    · rw [if_pos e]
    · rfl
  unfold State.recordEdge
  split
  · rename_i e
    exact .inl ⟨.inl e, each e⟩
  · rename_i absent other
    unfold State.offerEdge
    dsimp only
    split
    · rename_i i recipients missed created
      rw [if_neg other]
      exact .inr (.inl ⟨i, recipients, missed, other, absent, created, rfl⟩)
    · rename_i uncreated
      exact .inl ⟨.inr ⟨absent, uncreated⟩, rfl⟩
  · rename_i i other present
    exact .inr (.inr ⟨i, present, other, rfl⟩)

end Sys2Proof.Machine
end

section
/-!
SUPPORT. A request row is the taking of its frame, whatever its command (R174, R180, R183).
-/

namespace Sys2Proof.Machine

variable {s t u : State}

/-! ### Requests are frames taken -/

/-- A request row that is not UNKNOWN_COMMAND with a code of the table (R183). -/
def Instr.known : Instr → Bool
  | .unknownCommand _ code _ _ => !tableCodes.contains code
  | _ => true

/-- A code outside the command code table is UNKNOWN_COMMAND's (R183, R188). -/
theorem commandOf_unknown {code : Byte} (unlisted : tableCodes.contains code = false) :
    commandOf code = unknownReply := by
  have other : ∀ n ∈ tableCodes.map BitVec.toNat, code.toNat ≠ n := by
    intro n listed same
    obtain ⟨known, member, rfl⟩ := List.mem_map.mp listed
    rw [← BitVec.eq_of_toNat_eq same, ← List.contains_iff_mem, unlisted] at member
    cases member
  unfold commandOf
  split
  case h_34 => rfl
  all_goals
    rename_i number
    exact absurd number (other _ (by decide))

/-- A request row is the taking of its frame, once its port awaits the CRC byte of exactly that frame
(R174, R180, R183). -/
theorem exec_request {i : Instr} {f : RequestFrame} (frame : i.frame? = some f) (s : State) :
    exec i s =
      if (Instr.known i && s.ports[f.host].awaitsCrc f.code f.tag f.payload) = true then
        .next (s.takeFrame f.host f.code f.tag f.payload)
      else .refused .frameNotReceived := by
  cases i
  case unknownCommand host code tag payload =>
    obtain rfl := Option.some.inj frame
    change execUnknownCommand host code tag payload s = _
    unfold execUnknownCommand
    cases listed : tableCodes.contains code
    · have notRepeat : code ≠ 0x06#8 := by rintro rfl; exact absurd listed (by decide)
      simp only [Instr.known, listed, takeRow, State.takeFrame, notRepeat, commandOf_unknown listed,
        Bool.not_false, Bool.true_and, if_false, Bool.false_eq_true]
    · simp only [Instr.known, listed, Bool.not_true, Bool.false_and, if_true, Bool.false_eq_true,
        if_false]
  case frameError | frameRefusedForLength | frameDiscarded | responseSent | powerOnReset |
      externalReset | tick | timeWrap | qualificationStart | glitch | qualifiedEdge | checkExpiry |
      pulseExpiry | supervisionExpiry | selectFalls | selectRises | byteCompletes =>
    cases frame
  all_goals
    obtain rfl := Option.some.inj frame
    rfl

end Sys2Proof.Machine
end

section
/-!
SUPPORT. The relation Effect: what a command can do to the pool, the queues' entries and the fold
references, with the operations that several commands share.
-/

namespace Sys2Proof.Machine

variable {s t u : State}

/-! ### The effect of a command -/

/-- The source and detail of an offer are those that its kind has (R5). -/
def Offer.formed (o : Offer) : Bool := (o.record 0 0).formed

/-- One operation of the pool that frees no record. -/
inductive PoolChange : State → State → Prop
  | quiet {s t : State} (same : Quiet s t) : PoolChange s t
  | offer (s : State) (o : Offer) (formed : o.formed = true) : PoolChange s (s.offer o).1
  | edge (s : State) (l : LineId) (k : EdgeKind) (t0 : HubTime) (snapshot : LineSet) :
      PoolChange s (s.recordEdge l k t0 snapshot)
  | showing (s : State) (i : SlotId) : PoolChange s (s.showRecord i)
  | dropping (s : State) (l : LineId) (k : EdgeKind) : PoolChange s (s.dropFoldRef l k)

/-- Any number of operations of the pool that free no record. -/
abbrev PoolChanges : State → State → Prop := Relation.ReflTransGen PoolChange

/-- Every slot is FREE, every queue empty, every fold reference clear, and no port has changed but for
its stored response: what a reset leaves behind the ports. -/
structure Cleared (s t : State) : Prop where
  slots : ∀ i : SlotId, t.slots[i] = none
  entries : ∀ h : HostId, t.queues[h].entries = []
  refs : ∀ (l : LineId) (k : EdgeKind), t.lines[l].foldRef k = none
  ports : ∀ h : HostId, t.ports[h] = { s.ports[h] with stored := t.ports[h].stored }

/-- What a command does to the pool, the entries and the fold references: changes that free nothing; an
acknowledgement; a session end with its session record; or a reset. -/
inductive Effect (s t : State) : Prop
  | changes (path : PoolChanges s t)
  | acknowledgement {u : State} (h : HostId) (n : Nat) (before : Quiet s u)
      (after : Quiet (u.removeOldest h n) t)
  | sessionEnd {u v : State} (h : HostId) (n : Nat) (o : Offer) (before : Quiet s u)
      (removed : Quiet (u.removeOldest h n) v) (formed : o.formed = true)
      (kind : o.kind ∈ [Kind.hostDetached, .hostLost, .hostEvicted])
      (after : Quiet (v.offer o).1 t)
  | reset (cleared : Cleared s t)

theorem Effect.of_quiet (same : Quiet s t) : Effect s t := .changes (.single (.quiet same))

/-- A quiet change before an effect is part of it. -/
theorem Effect.after_quiet (same : Quiet s t) (effect : Effect t u) : Effect s u := by
  cases effect with
  | changes path => exact .changes (.head (.quiet same) path)
  | acknowledgement h n before after => exact .acknowledgement h n (same.trans before) after
  | sessionEnd h n o before removed formed kind after =>
    exact .sessionEnd h n o (same.trans before) removed formed kind after
  | reset cleared =>
    exact .reset { cleared with ports := fun h => by rw [← same.ports]; exact cleared.ports h }

/-- A quiet change after an effect is part of it. -/
theorem Effect.then_quiet (effect : Effect s t) (same : Quiet t u) : Effect s u := by
  cases effect with
  | changes path => exact .changes (.tail path (.quiet same))
  | acknowledgement h n before after => exact .acknowledgement h n before (after.trans same)
  | sessionEnd h n o before removed formed kind after =>
    exact .sessionEnd h n o before removed formed kind (after.trans same)
  | reset cleared =>
    exact .reset
      { slots := fun i => by rw [same.slots]; exact cleared.slots i
        entries := fun h => by rw [same.entries]; exact cleared.entries h
        refs := fun l k => by rw [same.refs]; exact cleared.refs l k
        ports := fun h => by rw [same.ports]; exact cleared.ports h }

/-- What every operation of the pool keeps, every effect keeps. -/
theorem Effect.keeps {p : State → Prop} (quiet : ∀ {s t}, Quiet s t → p s → p t)
    (change : ∀ {s t}, PoolChange s t → p s → p t) (remove : ∀ {s} h, p s → p (s.removeHead h))
    (cleared : Cleared s t → p s → p t) (effect : Effect s t) (holds : p s) : p t := by
  have oldest : ∀ {u} h n, p u → p (u.removeOldest h n) := by
    intro u h n holds
    induction n generalizing u with
    | zero => exact holds
    | succ n ih => exact ih (remove h holds)
  cases effect with
  | changes path =>
    clear cleared
    induction path with
    | refl => exact holds
    | tail _ last ih => exact change last ih
  | acknowledgement h n before after => exact quiet after (oldest h n (quiet before holds))
  | sessionEnd h n o before removed formed kind after =>
    exact quiet after (change (.offer _ o formed) (quiet removed (oldest h n (quiet before holds))))
  | reset c => exact cleared c holds

/-- No operation of the pool changes a port. -/
theorem PoolChange.ports (change : PoolChange s t) : t.ports = s.ports := by
  cases change with
  | quiet same => exact same.ports
  | offer => exact offer_ports ..
  | edge => rw [recordEdge_frame]
  | showing => rw [showRecord_frame]
  | dropping => rw [dropFoldRef_frame]

/-- An effect changes no port but for its stored response. -/
theorem Effect.ports (effect : Effect s t) (h : HostId) :
    t.ports[h] = { s.ports[h] with stored := t.ports[h].stored } := by
  have kept : ∀ {u v : State}, v.ports = u.ports →
      u.ports[h] = { s.ports[h] with stored := u.ports[h].stored } →
      v.ports[h] = { s.ports[h] with stored := v.ports[h].stored } := by
    intro u v same stored
    rw [same]; exact stored
  refine effect.keeps (fun same => kept same.ports) (fun change => kept change.ports)
    (fun g => kept (by rw [removeHead_frame])) (fun cleared _ => cleared.ports h) rfl

/-! ### Operations made of several -/

/-- Operations of the pool along a list. -/
theorem PoolChanges.of_foldl {α : Type} {f : State → α → State} {xs : List α}
    (each : ∀ x ∈ xs, ∀ u, PoolChanges u (f u x)) (s : State) : PoolChanges s (xs.foldl f s) := by
  induction xs generalizing s with
  | nil => exact .refl
  | cons x xs ih =>
    exact .trans (each x (List.mem_cons_self ..) s)
      (ih (fun y member => each y (List.mem_cons_of_mem _ member)) (f s x))

theorem PoolChanges.of_quiet (same : Quiet s t) : PoolChanges s t := .single (.quiet same)

theorem PoolChanges.of_takeOffers {offers : List Offer} (formed : ∀ o ∈ offers, o.formed = true)
    (s : State) : PoolChanges s (s.takeOffers offers) :=
  .of_foldl (fun o member u => .single (.offer u o (formed o member))) s

theorem PoolChanges.of_dropFoldRefs (s : State) (l : LineId) : PoolChanges s (s.dropFoldRefs l) :=
  .tail (.single (.dropping s l .rise)) (.dropping _ l .fall)

/-- No fold reference of a line is left when both have been dropped (R65, R68). -/
theorem dropFoldRefs_ref (s : State) (l m : LineId) (k : EdgeKind) :
    (s.dropFoldRefs l).lines[m].foldRef k = if m = l then none else s.lines[m].foldRef k := by
  rw [State.dropFoldRefs, dropFoldRef_ref, dropFoldRef_ref]
  cases k <;> by_cases e : m = l <;> simp [e]

/-- No fold reference of a set of lines is left when all have been dropped (R68). -/
theorem dropFoldRefsOf_ref {named : LineSet} {m : LineId} (member : holds named m = true)
    (s : State) (k : EdgeKind) : (s.dropFoldRefsOf named).lines[m].foldRef k = none := by
  have along : ∀ (xs : List LineId) (u : State), (xs.foldl State.dropFoldRefs u).lines[m].foldRef k =
      if m ∈ xs then none else u.lines[m].foldRef k := by
    intro xs
    induction xs with
    | nil => intro u; simp
    | cons x xs ih =>
      intro u
      rw [List.foldl_cons, ih, dropFoldRefs_ref]
      by_cases e : m = x <;> simp [e]
  rw [State.dropFoldRefsOf, along, if_pos ((mem_members ..).mpr member)]

/-- A reported edge is reflex offers around the record part (R69, R73). -/
theorem PoolChanges.of_reportEdge (s : State) (l : LineId) (k : EdgeKind) (t0 : HubTime)
    (snapshot : LineSet) : PoolChanges s (s.reportEdge l k t0 snapshot) := by
  have fired : Quiet s (s.fireReflexes l k) := .of_fields rfl rfl rfl rfl rfl
  have formed : ∀ o ∈ (s.fireReflexes l k).reflexOffers l k t0, o.formed = true := by
    intro o member
    obtain ⟨output, _, rfl⟩ := List.mem_map.mp member
    rfl
  unfold State.reportEdge
  dsimp only
  split
  · exact .tail (PoolChanges.of_quiet fired) (.edge ..)
  · rename_i o os offers
    rw [offers] at formed
    have drawn : Quiet s { s.fireReflexes l k with draws := (s.fireReflexes l k).draws + 1 } :=
      fired.trans (.of_fields rfl rfl rfl rfl rfl)
    have first := PoolChanges.of_takeOffers fun x member =>
      formed x (List.mem_of_mem_take (i := Config.reflexOffersFirst (s.fireReflexes l k).draws) member)
    have rest := PoolChanges.of_takeOffers fun x member =>
      formed x (List.mem_of_mem_drop (i := Config.reflexOffersFirst (s.fireReflexes l k).draws) member)
    exact (((PoolChanges.of_quiet drawn).trans (first _)).tail (.edge ..)).trans (rest _)

/-- A qualified edge (R62). -/
theorem PoolChanges.of_qualifyEdge (s : State) (l : LineId) (t0 : HubTime) :
    PoolChanges s (s.qualifyEdge l t0) := by
  have flipped : PoolChanges s (s.setLine l (s.lines[l].qualify t0)) :=
    .of_quiet (.of_setLine fun k => by cases k <;> rfl)
  have ends : ∀ v : State, PoolChanges v (v.setLine l v.lines[l].endDisarming) := fun v =>
    .of_quiet (.of_setLine fun k => by cases k <;> rfl)
  unfold State.qualifyEdge
  dsimp only
  refine .trans ?_ (ends _)
  split
  · exact flipped.trans (PoolChanges.of_reportEdge ..)
  · exact flipped

theorem EndCause.offer_formed (c : EndCause) (h : HostId) (number : Byte) (now : HubTime) :
    (c.offer h number now).formed = true ∧
    (c.offer h number now).kind ∈ [Kind.hostDetached, .hostLost, .hostEvicted] := by
  cases c <;> exact ⟨rfl, by simp [EndCause.offer]⟩

/-- What a session end gives back beside the entries is nothing that a law of the pool sees. -/
theorem Quiet.of_teardown (s : State) (h : HostId) :
    Quiet (s.removeOldest h s.queues[h].entries.length) (s.teardown h) where
  slots := rfl
  nextSeq := rfl
  entries g := by
    have empty : (s.removeOldest h s.queues[h].entries.length).queues[h].entries = [] := by
      rw [removeOldest_entries, List.drop_length]
    have := setQueue_getElem (s.removeOldest h s.queues[h].entries.length) h g
      { entries := [], pendingMisses := 0, missedTotal := 0, threshold := 1 }
    simp only [State.teardown]
    by_cases e : g = h
    · subst e; rw [empty]; simp
    · rw [if_neg e] at this; exact congrArg Queue.entries this
  refs l k := by
    simp only [State.teardown, Fin.getElem_fin, Vector.getElem_map]
    split <;> cases k <;> rfl
  ports := rfl

/-- A session end is the removal of the host's entries, then the offer of its session record (R151). -/
theorem Effect.of_endSession (s : State) (h : HostId) (c : EndCause) :
    Effect s (s.endSession h c) := by
  obtain ⟨formed, kind⟩ := c.offer_formed h s.sessions[h].number s.hubTime
  have ended : Quiet s (s.setSession h (s.sessions[h].ended c)) := .of_fields rfl rfl rfl rfl rfl
  exact .sessionEnd h _ _ ended (.of_teardown _ h) formed kind .refl

end Sys2Proof.Machine
end

section
/-!
SUPPORT. The effect of each request, gathered over the command code table (R188).
-/

namespace Sys2Proof.Machine

variable {s t u : State}

/-! ### The effect of each request -/

/-- What holds of the state of a refusal and of the state of the command's own reply, holds of the reply
behind the session stage (R140). -/
theorem ifAttached_state {p : State → Prop} {rq : Request} {k : Reply} (refused : p s) (taken : p k.state) :
    p (ifAttached rq s k).state := by
  unfold ifAttached
  split
  · exact refused
  · exact refused
  · exact taken

/-- The requests that touch neither the pool nor a queue nor a line are quiet. -/
theorem quiet_elsewhere {command : Request → State → Reply}
    (listed : command ∈ [hubStatusReply, readTimeReply, unknownReply, subscribeLinesReply,
      subscribeHubReply, readSubscriptionsReply, lineStatusReply, watchInstallReply, watchCancelReply,
      watchReadReply, outClaimReply, outReleaseReply, outDriveReply, outPulseReply, outBindReply,
      outUnbindReply, outSafeReply, outStatusReply, clearAttentionReply]) (rq : Request) (s : State) :
    Quiet s (command rq s).state := by
  simp only [List.mem_cons, List.not_mem_nil, or_false] at listed
  rcases listed with rfl | rfl | rfl | listed
  · unfold hubStatusReply; split <;> exact .refl
  · unfold readTimeReply; split <;> exact .refl
  · exact .refl
  rcases listed with rfl | rfl | rfl | rfl | rfl | rfl | rfl | rfl | rfl | rfl | rfl | rfl | rfl | rfl |
    rfl | rfl
  all_goals
    refine ifAttached_state .refl ?_
    try dsimp only
    repeat' split
    all_goals exact .of_fields rfl rfl rfl rfl rfl

/-- The requests that change a queue's counts or threshold, or the states of lines, are quiet. -/
theorem queueStatus_quiet (rq : Request) (s : State) : Quiet s (queueStatusReply rq s).state := by
  refine ifAttached_state .refl ?_
  split
  · dsimp only
    split
    · exact .refl
    · split
      · exact .of_setQueue rfl
      · exact .refl
  · exact .refl

theorem setAttention_quiet (rq : Request) (s : State) : Quiet s (setAttentionReply rq s).state := by
  refine ifAttached_state .refl ?_
  split
  · split
    · exact .refl
    split
    · exact .refl
    · rename_i causes _ _
      have posted : Quiet s (s.setAttention rq.host
          ({ s.attention[rq.host] with enabled := causes }.evaluate s.sessions[rq.host])) :=
        .of_fields rfl rfl rfl rfl rfl
      exact posted.trans (.of_setQueue rfl)
  · exact .refl

theorem lineArm_quiet (rq : Request) (s : State) : Quiet s (lineArmReply rq s).state := by
  refine ifAttached_state .refl ?_
  split
  · split
    · exact .refl
    · exact Quiet.of_mapLines (f := fun x => { x with state := .armed }) fun _ _ k => by cases k <;> rfl
  · exact .refl

theorem disarm_foldRef (x : Line) (k : EdgeKind) : x.disarm.foldRef k = x.foldRef k := by
  unfold Line.disarm
  split <;> cases k <;> rfl

theorem lineDisarm_quiet (rq : Request) (s : State) : Quiet s (lineDisarmReply rq s).state := by
  refine ifAttached_state .refl ?_
  split
  · dsimp only
    split
    · exact .refl
    split
    · exact .refl
    split
    · exact .refl
    · exact Quiet.of_mapLines fun _ _ k => disarm_foldRef _ k
  · exact .refl

/-- An offer after a quiet change. -/
theorem Effect.of_offer {o : Offer} (before : Quiet s u) (formed : o.formed = true) :
    Effect s (u.offer o).1 := .changes (.tail (.single (.quiet before)) (.offer u o formed))

theorem attach_effect (rq : Request) (s : State) : Effect s (attachReply rq s).state := by
  unfold attachReply
  split
  · exact .of_quiet .refl
  split
  · rename_i period _
    have opened : Quiet s (s.openSession rq.host period) := .of_fields rfl rfl rfl rfl rfl
    exact .of_offer opened rfl
  · exact .of_quiet .refl

theorem detach_effect (rq : Request) (s : State) : Effect s (detachReply rq s).state := by
  refine ifAttached_state (.of_quiet .refl) ?_
  split
  · exact .of_quiet .refl
  · exact .of_endSession ..

theorem evict_effect (rq : Request) (s : State) : Effect s (evictReply rq s).state := by
  refine ifAttached_state (.of_quiet .refl) ?_
  repeat' split
  case h_2.isFalse.isFalse.isFalse.isFalse => exact .of_endSession ..
  all_goals exact .of_quiet .refl

/-- A soft restart clears the pool, the queues and the fold references, and the stored responses. -/
theorem softRestart_cleared (s : State) : Cleared s s.softRestart where
  slots i := by simp [State.softRestart]
  entries h := by simp [State.softRestart]
  refs l k := by cases k <;> simp [State.softRestart, Line.unconfigured, Line.foldRef]
  ports h := by simp [State.softRestart]

theorem restartHub_effect (rq : Request) (s : State) : Effect s (restartHubReply rq s).state := by
  refine ifAttached_state (.of_quiet .refl) ?_
  split
  · exact .of_quiet .refl
  split
  · exact .of_quiet .refl
  · exact .reset (softRestart_cleared s)

theorem sendNote_effect (rq : Request) (s : State) : Effect s (sendNoteReply rq s).state := by
  refine ifAttached_state (.of_quiet .refl) ?_
  split
  · exact .of_quiet .refl
  rename_i targets note _
  split
  · exact .of_quiet .refl
  rename_i size
  split
  · exact .of_quiet .refl
  rename_i named _
  split
  · exact .of_quiet .refl
  split
  · exact .of_quiet .refl
  have formed : (noteOffer rq.host rq.takenAt note (named &&& s.attachedSet)).formed = true := by
    have : note.length ≠ 0 := fun e => size (.inl (List.length_eq_zero_iff.mp e))
    exact decide_eq_true ⟨Nat.pos_of_ne_zero this, Nat.le_of_not_lt fun e => size (.inr e)⟩
  dsimp only
  unfold noteReply
  split
  · exact .of_quiet .refl
  · exact .of_quiet .refl
  · exact .changes (.single (.offer _ _ formed))
  · exact .changes (.single (.offer _ _ formed))

theorem adjustTime_effect (rq : Request) (s : State) : Effect s (adjustTimeReply rq s).state := by
  refine ifAttached_state (.of_quiet .refl) ?_
  split
  · dsimp only
    split
    · exact .of_quiet .refl
    split
    · exact .of_quiet .refl
    · rename_i b3 b2 b1 b0 _ _ _
      have adjusted : Quiet s { s with hubTime := s.hubTime + word b3 b2 b1 b0 } :=
        .of_fields rfl rfl rfl rfl rfl
      exact .of_offer adjusted rfl
  · exact .of_quiet .refl

theorem readEvents_effect (rq : Request) (s : State) : Effect s (readEventsReply rq s).state := by
  refine ifAttached_state (.of_quiet .refl) ?_
  split
  · dsimp only
    split
    · exact .of_quiet .refl
    · exact .changes (PoolChanges.of_foldl (fun e _ u => .single (.showing u e.slot)) s)
  · exact .of_quiet .refl

theorem ackEvents_effect (rq : Request) (s : State) : Effect s (ackEventsReply rq s).state := by
  refine ifAttached_state (.of_quiet .refl) ?_
  split
  · dsimp only
    repeat' split
    case h_2.isFalse => exact .acknowledgement _ _ .refl .refl
    all_goals exact .of_quiet .refl
  · exact .of_quiet .refl

theorem lineConfigure_effect (rq : Request) (s : State) : Effect s (lineConfigureReply rq s).state := by
  refine ifAttached_state (.of_quiet .refl) ?_
  split
  · split
    · split
      · exact .of_quiet .refl
      split
      · exact .of_quiet .refl
      · refine .changes (.tail (PoolChanges.of_dropFoldRefs s _) (.quiet (.of_setLine fun k => ?_)))
        cases k <;> rfl
    · exact .of_quiet .refl
  · exact .of_quiet .refl

theorem lineRelease_effect (rq : Request) (s : State) : Effect s (lineReleaseReply rq s).state := by
  refine ifAttached_state (.of_quiet .refl) ?_
  split
  · split
    · exact .of_quiet .refl
    · rename_i hi lo _ _ _
      have released : Quiet (s.dropFoldRefsOf (half hi lo))
          ((s.dropFoldRefsOf (half hi lo)).mapLines (half hi lo) Line.unconfigured) :=
        .of_mapLines fun l member k => by rw [dropFoldRefsOf_ref member]; cases k <;> rfl
      have dropped : PoolChanges s (s.dropFoldRefsOf (half hi lo)) :=
        PoolChanges.of_foldl (fun l _ u => PoolChanges.of_dropFoldRefs u l) s
      exact .changes (.tail dropped (.quiet released))
  · exact .of_quiet .refl

theorem outSeize_effect (rq : Request) (s : State) : Effect s (outSeizeReply rq s).state := by
  refine ifAttached_state (.of_quiet .refl) ?_
  split
  · split
    · exact .of_quiet .refl
    split
    · exact .of_quiet .refl
    split
    · exact .of_quiet .refl
    · rename_i outs _ _ _ _
      have seized : Quiet s ((s.postSeized rq.host outs).mapOutputs outs fun _ o => o.seize rq.host) :=
        .of_fields rfl rfl rfl rfl rfl
      have formed : ∀ o ∈ s.seizedOffers rq.host outs rq.takenAt, o.formed = true := by
        intro o member
        obtain ⟨output, _, rfl⟩ := List.mem_map.mp member
        rfl
      exact .changes ((PoolChanges.of_quiet seized).trans (PoolChanges.of_takeOffers formed _))
  · exact .of_quiet .refl

/-- The effect of a request, whatever its code (R188). -/
theorem commandOf_effect (code : Byte) (rq : Request) (s : State) :
    Effect s (commandOf code rq s).state := by
  change (fun command : Request → State → Reply => Effect s (command rq s).state) (commandOf code)
  unfold commandOf
  split
  case h_1 => exact attach_effect rq s
  case h_2 => exact detach_effect rq s
  case h_3 => exact evict_effect rq s
  case h_4 => exact restartHub_effect rq s
  case h_6 => exact sendNote_effect rq s
  case h_8 => exact adjustTime_effect rq s
  case h_12 => exact readEvents_effect rq s
  case h_13 => exact ackEvents_effect rq s
  case h_14 => exact .of_quiet (queueStatus_quiet rq s)
  case h_15 => exact lineConfigure_effect rq s
  case h_16 => exact .of_quiet (lineArm_quiet rq s)
  case h_17 => exact .of_quiet (lineDisarm_quiet rq s)
  case h_18 => exact lineRelease_effect rq s
  case h_29 => exact outSeize_effect rq s
  case h_32 => exact .of_quiet (setAttention_quiet rq s)
  all_goals exact .of_quiet (quiet_elsewhere (by simp) rq s)

end Sys2Proof.Machine
end

section
/-!
SUPPORT. What a command does to a port, and exec_acts: every command is an effect behind the ports and a
move of each port.
-/

namespace Sys2Proof.Machine

variable {s t u : State} {p q : Port}

/-! ### What a command does to a port -/

/-- What one command can make of a port: nothing but the stored response and the counts; DESELECTED; a
move among the states that hold no frame in progress; a fall of select; or one more byte of a frame that
has room for it (R174 to R176). -/
inductive PortMove (p : Port) : Port → Prop
  | kept {q : Port} (selectLow : q.selectLow = p.selectLow) (receiver : q.receiver = p.receiver)
      (sdo : q.sdo = p.sdo) : PortMove p q
  | deselected {q : Port} (receiver : q.receiver = .deselected) (sdo : q.sdo = none) : PortMove p q
  | active {q : Port} (selected : p.receiver ≠ .deselected) (selectLow : q.selectLow = p.selectLow)
      (frameless : ∀ bytes crc, q.receiver ≠ .receiving bytes crc) : PortMove p q
  | selected : PortMove p p.selected
  | byteStored {bytes : List Byte} {crc byte : Byte} (receiver : p.receiver = .receiving bytes crc)
      (length : bytes.length = 2 → byte.toNat ≤ maxPayload)
      (room : ∀ length ∈ bytes[2]?, bytes.length < 3 + length.toNat) :
      PortMove p (p.storeByte bytes crc byte)

/-- The law of a port, its frame in progress named. -/
theorem port_law_iff (p : Port) : p.Law ↔
    (p.selectLow = false → p.receiver = .deselected ∧ p.sdo = none) ∧
    ∀ bytes crc, p.receiver = .receiving bytes crc → FrameLaw bytes crc := by
  refine and_congr_right fun _ => ?_
  cases p.receiver <;> simp

/-- One more byte of a frame that has room for it keeps the frame well formed (R175, R176). -/
theorem frameLaw_append {bytes : List Byte} {crc byte : Byte} (law : FrameLaw bytes crc)
    (length : bytes.length = 2 → byte.toNat ≤ maxPayload)
    (room : ∀ length ∈ bytes[2]?, bytes.length < 3 + length.toNat) :
    FrameLaw (bytes ++ [byte]) (crcByte crc byte) := by
  obtain ⟨crcLaw, sizeLaw⟩ := law
  refine ⟨by rw [crcLaw, crc8, crc8, List.foldl_append]; rfl, fun n found => ?_⟩
  rw [List.length_append, List.length_singleton]
  rcases Nat.lt_trichotomy 2 bytes.length with longer | third | shorter
  · rw [List.getElem?_append_left longer] at found
    exact ⟨(sizeLaw n found).1, by have := room n found; omega⟩
  · rw [List.getElem?_append_right (Nat.le_of_eq third.symm), ← third] at found
    obtain rfl : byte = n := by simpa using found
    exact ⟨length third.symm, by omega⟩
  · rw [List.getElem?_eq_none (by rw [List.length_append, List.length_singleton]; omega)] at found
    cases found

/-- Every move of a port keeps its law. -/
theorem PortMove.keeps_law (move : PortMove p q) (law : p.Law) : q.Law := by
  rw [port_law_iff] at law ⊢
  obtain ⟨idle, frame⟩ := law
  cases move with
  | kept selectLow receiver sdo => rw [selectLow, receiver, sdo]; exact ⟨idle, frame⟩
  | deselected receiver sdo => rw [receiver, sdo]; exact ⟨fun _ => ⟨rfl, rfl⟩, nofun⟩
  | active selected selectLow frameless =>
    rw [selectLow]
    exact ⟨fun high => absurd (idle high).1 selected,
      fun bytes crc found => absurd found (frameless bytes crc)⟩
  | selected => exact ⟨nofun, by rintro _ _ ⟨⟩; exact ⟨rfl, nofun⟩⟩
  | byteStored receiver length room =>
    refine ⟨fun high => ?_, ?_⟩
    · have := (idle high).1
      rw [receiver] at this
      cases this
    · rintro _ _ ⟨⟩
      exact frameLaw_append (frame _ _ receiver) length room

/-! ### What a command does -/

/-- An effect on the blocks behind the ports, with the ports moved before or after it. -/
def Acts (s t : State) : Prop :=
  ∃ (ports : Vector Port 4) (u : State), Effect { s with ports := ports } u ∧
    t = { u with ports := t.ports } ∧ ∀ h : HostId, PortMove s.ports[h] t.ports[h]

theorem Acts.of_effect (effect : Effect s t) : Acts s t := by
  refine ⟨s.ports, t, effect, rfl, fun h => ?_⟩
  rw [effect.ports h]
  exact .kept rfl rfl rfl

theorem Acts.of_quiet (same : Quiet s t) : Acts s t := .of_effect (.of_quiet same)

/-- One port moved after an effect. -/
theorem Acts.of_setPort (effect : Effect s u) {h : HostId} (move : PortMove s.ports[h] p) :
    Acts s (u.setPort h p) := by
  refine ⟨s.ports, u, effect, rfl, fun g => ?_⟩
  rw [setPort_getElem]
  split
  · rename_i e; subst e; exact move
  · rw [effect.ports g]; exact .kept rfl rfl rfl

/-- Every port moved before an effect. -/
theorem Acts.of_ports (moves : ∀ h : HostId, PortMove s.ports[h] t.ports[h])
    (effect : Effect { s with ports := t.ports } t) : Acts s t :=
  ⟨t.ports, t, effect, rfl, moves⟩

/-- A port that awaits a CRC byte is RECEIVING. -/
theorem awaitsCrc_receiving {code tag : Byte} {payload : List Byte}
    (awaits : p.awaitsCrc code tag payload = true) : ∃ bytes crc, p.receiver = .receiving bytes crc := by
  unfold Port.awaitsCrc at awaits
  split at awaits
  · exact ⟨_, _, ‹_›⟩
  · cases awaits

/-- A RECEIVING port that begins to answer, or that skips the rest of its frame. -/
theorem PortMove.of_receiving {bytes : List Byte} {crc : Byte} (receiving : p.receiver = .receiving bytes crc)
    (selectLow : q.selectLow = p.selectLow) (frameless : ∀ bytes crc, q.receiver ≠ .receiving bytes crc) :
    PortMove p q :=
  .active (by rw [receiving]; nofun) selectLow frameless

theorem restarted_quiet (s : State) (h : HostId) : Quiet s (s.restarted h) :=
  .of_fields (restarted_slots ..) (restarted_nextSeq ..) (restarted_queues ..) (restarted_lines ..)
    (restarted_ports ..)

/-- What the taking of a frame does, at a port that has received it (R180). -/
theorem takeFrame_acts {h : HostId} {bytes : List Byte} {crc : Byte}
    (receiving : s.ports[h].receiver = .receiving bytes crc) (code tag : Byte) (payload : List Byte) :
    Acts s (s.takeFrame h code tag payload) := by
  have restarted := restarted_quiet s h
  unfold State.takeFrame
  split
  · unfold State.takeRepeat
    rw [restartTimer_eq]
    refine .of_setPort (.of_quiet restarted) (.of_receiving receiving ?_ nofun)
    rw [restarted.ports]
  · rw [take_eq]
    have effect := Effect.after_quiet restarted
      (commandOf_effect code ⟨h, s.hubTime, payload⟩ (s.restarted h))
    refine .of_setPort effect (.of_receiving receiving ?_ nofun)
    dsimp only
    rw [effect.ports h]

/-- What a frame error does (R179). -/
theorem failFrame_acts {h : HostId} {bytes : List Byte} {crc : Byte}
    (receiving : s.ports[h].receiver = .receiving bytes crc) (tag : Byte) :
    Acts s (s.failFrame h tag) := by
  have twice : s.failFrame h tag = s.setPort h
      { s.ports[h].countFrameError with
        receiver := .answering false (frameErrorResponse tag s.hubTime).frame 0
        sdo := some idleByte } := by
    simp [State.failFrame, State.startAnswer, State.setPort, Vector.set_set]
  rw [twice]
  exact .of_setPort (.of_quiet .refl) (.of_receiving receiving rfl nofun)

/-- What a byte of a request frame does (R174 to R176, R179, R180). -/
theorem receiveByte_acts {h : HostId} {bytes : List Byte} {crc : Byte}
    (receiving : s.ports[h].receiver = .receiving bytes crc) (byte : Byte) :
    Acts s (s.receiveByte h bytes crc byte) := by
  unfold State.receiveByte
  split
  · split
    · exact .of_setPort (.of_quiet .refl) (.of_receiving receiving rfl nofun)
    · rename_i fits
      exact .of_setPort (.of_quiet .refl)
        (.byteStored receiving (fun _ => Nat.le_of_not_lt fits) (by simp))
  · rename_i code tag length payload
    split
    · rename_i room
      refine .of_setPort (.of_quiet .refl) (.byteStored receiving (fun two => by simp at two) ?_)
      rintro n found
      obtain rfl : length = n := by simpa using found
      simp only [List.length_cons]
      omega
    split
    · exact takeFrame_acts receiving ..
    · exact failFrame_acts receiving ..
  · rename_i notTwo notThree
    have short : bytes.length < 2 := by
      match bytes with
      | [] => simp
      | [_] => simp
      | [a, b] => exact absurd rfl (notTwo a b)
      | a :: b :: c :: rest => exact absurd rfl (notThree a b c rest)
    refine .of_setPort (.of_quiet .refl) (.byteStored receiving (by omega) ?_)
    rw [List.getElem?_eq_none (by omega)]
    nofun

/-- What a byte clocked in ANSWERING does (R181). -/
theorem sendByte_acts {h : HostId} {ready : Bool} {rest : List Byte} {age : Nat}
    (answering : s.ports[h].receiver = .answering ready rest age) :
    Acts s (s.sendByte h ready rest age) := by
  have drawn : ∀ asks : Bool, Quiet s (if asks then { s with draws := s.draws + 1 } else s) := by
    intro asks
    split
    · exact .of_fields rfl rfl rfl rfl rfl
    · exact .refl
  have selected : s.ports[h].receiver ≠ .deselected := by rw [answering]; nofun
  unfold State.sendByte
  dsimp only
  split
  · exact .of_setPort (.of_quiet (drawn _)) (.active selected rfl nofun)
  split
  · exact .of_setPort (.of_quiet (drawn _)) (.active selected rfl nofun)
  · exact .of_setPort (.of_quiet (drawn _)) (.active selected rfl (by rw [answering]; nofun))

/-- A port that a tick comes to. -/
theorem PortMove.of_tick (p : Port) : PortMove p p.tick := by
  unfold Port.tick
  split
  · rename_i answering
    exact .active (by rw [answering]; nofun) rfl nofun
  · exact .kept rfl rfl rfl

/-- A tick handed out, with what comes of it behind the ports (R60, R83, R91). -/
theorem Acts.of_handTick (levels : LineSet) (effect : Effect (s.handTick levels) t)
    (ports : t.ports = (s.handTick levels).ports) : Acts s t := by
  have refs : ∀ (l : LineId) (k : EdgeKind),
      (s.handTick levels).lines[l].foldRef k = s.lines[l].foldRef k := by
    intro l k
    simp only [State.handTick, Fin.getElem_fin, Vector.getElem_map]
    cases k <;> rfl
  have handed : Quiet { s with ports := t.ports } (s.handTick levels) :=
    ⟨rfl, rfl, fun _ => rfl, refs, ports.symm⟩
  refine .of_ports (fun h => ?_) (effect.after_quiet handed)
  have ticked : t.ports[h] = s.ports[h].tick := by
    rw [ports]
    simp only [State.handTick, Fin.getElem_fin, Vector.getElem_map]
  rw [ticked]
  exact .of_tick _

/-- A power-on or external reset clears the pool, the queues and the fold references, and deselects every
port (R28, R187). -/
theorem hardReset_acts (s : State) (cause : ResetCause) (straps : HostSet) (levels : LineSet)
    (selects : HostSet) : Acts s (s.hardReset cause straps levels selects) := by
  refine .of_ports (fun h => ?_) (.reset ?_)
  · have port : (s.hardReset cause straps levels selects).ports[h] =
        Port.afterReset (holds selects h) := by simp [State.hardReset]
    rw [port]
    exact .deselected rfl rfl
  · exact
      { slots := fun i => by simp [State.hardReset]
        entries := fun h => by simp [State.hardReset]
        refs := fun l k => by cases k <;> simp [State.hardReset, Line.afterReset, Line.foldRef]
        ports := fun _ => rfl }

theorem wrap_effect (s : State) : Effect s s.wrap := by
  have wrapped : Quiet s { s with hubTime := 0#32, epoch := s.epoch + 1#16, countOwed := false } :=
    .of_fields rfl rfl rfl rfl rfl
  exact .of_offer wrapped rfl

theorem tick_acts (event : TickEvent) (e : execTick event s = .next t) : Acts s t := by
  unfold execTick at e
  split at e
  · rename_i levels
    split at e
    · cases e
    split at e
    · cases e
      exact .of_handTick levels (.of_quiet (.of_fields rfl rfl rfl rfl rfl)) rfl
    · cases e
      exact .of_handTick levels (.of_quiet (.of_fields rfl rfl rfl rfl rfl)) rfl
  · rename_i levels
    split at e
    · cases e
    · cases e
      exact .of_handTick levels (.of_quiet (.of_fields rfl rfl rfl rfl rfl)) rfl
  · split at e
    · cases e
      exact .of_quiet (.of_fields rfl rfl rfl rfl rfl)
    · cases e

theorem timeWrap_acts (levels : LineSet) (e : execTimeWrap levels s = .next t) : Acts s t := by
  unfold execTimeWrap at e
  split at e
  · cases e
  split at e
  · cases e
    exact .of_effect (wrap_effect s)
  split at e
  · cases e
  · cases e
    exact .of_handTick levels (wrap_effect _) (offer_ports ..)

theorem qualificationStart_acts (l : LineId) (e : execQualificationStart l s = .next t) : Acts s t := by
  unfold execQualificationStart at e
  split at e
  · cases e
    unfold State.startQualification
    split
    · exact .of_effect (.changes (.of_qualifyEdge ..))
    · exact .of_quiet (.of_setLine fun k => by cases k <;> rfl)
  · cases e

theorem glitch_acts (l : LineId) (e : execGlitch l s = .next t) : Acts s t := by
  unfold execGlitch at e
  split at e
  · cases e
    exact .of_quiet (.of_setLine fun k => by cases k <;> rfl)
  · cases e

theorem qualifiedEdge_acts (l : LineId) (e : execQualifiedEdge l s = .next t) : Acts s t := by
  unfold execQualifiedEdge at e
  split at e <;> split at e <;> cases e <;> exact .of_effect (.changes (.of_qualifyEdge ..))

/-- The end of a watch entry: its change, its offer and its posting (R102, R103, R105). -/
theorem endWatch_effect (s : State) (w : WatchId) {kind : Kind} (after : Watch)
    (watch : kind = .watchMatch ∨ kind = .watchTimeout) : Effect s (s.endWatch w kind after) := by
  have changed : Quiet s (s.setWatch w after) := .of_fields rfl rfl rfl rfl rfl
  have posted : ∀ (v : State) (h : HostId), Quiet v (v.post h .watch) := fun v h =>
    .of_fields rfl rfl rfl rfl rfl
  have formed : (watchOffer kind w s.watches[w] s.hubTime s.settledLevels).formed = true := by
    rcases watch with rfl | rfl <;> rfl
  unfold State.endWatch
  dsimp only
  split
  · exact .of_offer changed formed
  · exact (Effect.of_offer changed formed).then_quiet (posted _ _)

theorem checkExpiry_acts (w : WatchId) (e : execCheckExpiry w s = .next t) : Acts s t := by
  unfold execCheckExpiry at e
  split at e
  · dsimp only at e
    split at e <;> cases e
    · exact .of_quiet (.of_fields rfl rfl rfl rfl rfl)
    · exact .of_effect (endWatch_effect s w _ (.inl rfl))
    · exact .of_effect (endWatch_effect s w _ (.inr rfl))
  · cases e

theorem pulseExpiry_acts (o : OutputId) (e : execPulseExpiry o s = .next t) : Acts s t := by
  unfold execPulseExpiry at e
  split at e
  · cases e
  split at e
  · cases e
    exact .of_quiet (.of_fields rfl rfl rfl rfl rfl)
  · cases e

theorem supervisionExpiry_acts (h : HostId) (e : execSupervisionExpiry h s = .next t) : Acts s t := by
  unfold execSupervisionExpiry at e
  split at e
  · cases e
    exact .of_effect (.of_endSession ..)
  · cases e

theorem selectFalls_acts (h : HostId) (e : execSelectFalls h s = .next t) : Acts s t := by
  unfold execSelectFalls at e
  split at e
  · cases e
  · cases e
    exact .of_setPort (.of_quiet .refl) .selected

theorem selectRises_acts (h : HostId) (e : execSelectRises h s = .next t) : Acts s t := by
  unfold execSelectRises at e
  split at e <;> cases e <;> exact .of_setPort (.of_quiet .refl) (.deselected rfl rfl)

theorem frameDiscarded_acts (h : HostId) (e : execFrameDiscarded h s = .next t) : Acts s t := by
  unfold execFrameDiscarded at e
  split at e <;> cases e
  exact .of_setPort (.of_quiet .refl) (.deselected rfl rfl)

theorem frameRefusedForLength_acts (h : HostId) (length : Byte)
    (e : execFrameRefusedForLength h length s = .next t) : Acts s t := by
  unfold execFrameRefusedForLength at e
  split at e
  · rename_i receiving
    split at e <;> cases e
    exact .of_setPort (.of_quiet .refl) (.of_receiving receiving rfl nofun)
  · cases e

theorem frameError_acts (h : HostId) (crc : Byte) (e : execFrameError h crc s = .next t) : Acts s t := by
  unfold execFrameError at e
  split at e
  · rename_i receiving
    split at e <;> cases e
    exact failFrame_acts receiving _
  · cases e

theorem responseSent_acts (h : HostId) (e : execResponseSent h s = .next t) : Acts s t := by
  unfold execResponseSent at e
  split at e <;> cases e
  rename_i answering
  exact .of_setPort (.of_quiet .refl) (.active (by rw [answering]; nofun) rfl nofun)

theorem byteCompletes_acts (h : HostId) (byte : Byte) (e : execByteCompletes h byte s = .next t) :
    Acts s t := by
  unfold execByteCompletes at e
  split at e <;> cases e <;> rename_i state
  · exact .of_quiet .refl
  · exact receiveByte_acts state byte
  · exact .of_setPort (.of_quiet .refl) (.active (by rw [state]; nofun) rfl (by rw [state]; nofun))
  · exact sendByte_acts state
  · exact .of_setPort (.of_quiet .refl) (.active (by rw [state]; nofun) rfl (by rw [state]; nofun))

theorem request_acts {i : Instr} {f : RequestFrame} (frame : i.frame? = some f)
    (e : exec i s = .next t) : Acts s t := by
  rw [exec_request frame] at e
  split at e <;> cases e
  rename_i comes
  obtain ⟨_, awaits⟩ := Bool.and_eq_true_iff.mp comes
  obtain ⟨bytes, crc, receiving⟩ := awaitsCrc_receiving awaits
  exact takeFrame_acts receiving ..

/-- What a command does: an effect of the pool, with moves of the ports. -/
theorem exec_acts {c : Instr} (e : exec c s = .next t) : Acts s t := by
  cases c
  case frameError h crc => exact frameError_acts h crc e
  case frameRefusedForLength h length => exact frameRefusedForLength_acts h length e
  case frameDiscarded h => exact frameDiscarded_acts h e
  case responseSent h => exact responseSent_acts h e
  case powerOnReset => cases e; exact hardReset_acts ..
  case externalReset => cases e; exact hardReset_acts ..
  case tick event => exact tick_acts event e
  case timeWrap levels => exact timeWrap_acts levels e
  case qualificationStart l => exact qualificationStart_acts l e
  case glitch l => exact glitch_acts l e
  case qualifiedEdge l => exact qualifiedEdge_acts l e
  case checkExpiry w => exact checkExpiry_acts w e
  case pulseExpiry o => exact pulseExpiry_acts o e
  case supervisionExpiry h => exact supervisionExpiry_acts h e
  case selectFalls h => exact selectFalls_acts h e
  case selectRises h => exact selectRises_acts h e
  case byteCompletes h byte => exact byteCompletes_acts h byte e
  all_goals exact request_acts rfl e

end Sys2Proof.Machine
end

section
/-!
CLAIM. The holder law and the queue law are kept by every step (O50).
-/

namespace Sys2Proof.Machine

variable {s t u : State}

/-! ### The holder law and the queue law (R2, R37) -/

/-- The pool's first law and the bounds of the queues, which need each other. -/
abbrev State.PoolLaw (s : State) : Prop := s.HolderLaw ∧ s.QueueLaw

/-- The pool's first law for one slot, given which hosts' queues refer to it. -/
def SlotLaw (slot : Option Record) (refers : HostId → Prop) : Prop :=
  (slot = none → ∀ h, ¬ refers h) ∧
  ∀ r ∈ slot, r.holders ≠ 0#4 ∧ ∀ h, holds r.holders h = true ↔ refers h

theorem holderLaw_iff (s : State) :
    s.HolderLaw ↔ ∀ i : SlotId, SlotLaw s.slots[i] fun h => s.Refers h i := Iff.rfl

/-- The law of a slot depends on the record's holder set alone. -/
theorem SlotLaw.congr {slot slot' : Option Record} {refers refers' : HostId → Prop}
    (law : SlotLaw slot refers) (holders : slot'.map Record.holders = slot.map Record.holders)
    (same : ∀ h, refers' h ↔ refers h) : SlotLaw slot' refers' := by
  obtain ⟨free, used⟩ := law
  refine ⟨fun none' h => ?_, fun r' found => ?_⟩
  · rw [none', Option.map_none, eq_comm, Option.map_eq_none_iff] at holders
    rw [same]; exact free holders h
  · rw [Option.mem_def.mp found, Option.map_some, eq_comm, Option.map_eq_some_iff] at holders
    obtain ⟨r, member, eq⟩ := holders
    obtain ⟨nonempty, iff⟩ := used r member
    exact ⟨eq ▸ nonempty, fun h => by rw [← eq, same]; exact iff h⟩

/-- The laws of the pool and the queues depend on holder sets and entries alone. -/
theorem poolLaw_congr (law : s.PoolLaw)
    (holders : ∀ i : SlotId, t.slots[i].map Record.holders = s.slots[i].map Record.holders)
    (entries : ∀ h : HostId, t.queues[h].entries = s.queues[h].entries) : t.PoolLaw := by
  refine ⟨(holderLaw_iff t).mpr fun i => ?_, fun h => by rw [entries]; exact law.2 h⟩
  exact ((holderLaw_iff s).mp law.1 i).congr (holders i) fun h => by simp only [State.Refers, entries]

/-- A record created in a FREE slot, with one entry at each recipient that had room (R16). -/
theorem Created.poolLaw {o : Offer} {i : SlotId} {recipients : HostSet}
    (created : Created s o i recipients t) (law : s.PoolLaw) : t.PoolLaw := by
  obtain ⟨holder, queue⟩ := law
  have unreferred : ∀ h, ¬ s.Refers h i := (holder i).1 created.free
  have refers : ∀ h j, t.Refers h j ↔ s.Refers h j ∨ holds recipients h = true ∧ j = i := by
    intro h j
    simp only [State.Refers, created.entries]
    split
    · rename_i recipient
      simp [recipient, or_and_right, exists_or, eq_comm]
    · rename_i other
      simp [other]
  refine ⟨(holderLaw_iff t).mpr fun j => ?_, fun h => ?_⟩
  · by_cases e : j = i
    · subst e
      rw [created.slots, if_pos rfl]
      refine ⟨fun free => (Option.some_ne_none _ free).elim, ?_⟩
      rintro _ ⟨⟩
      exact ⟨created.some_recipient, fun h => by simp [refers, unreferred, Offer.record]⟩
    · rw [created.slots, if_neg e]
      exact ((holderLaw_iff s).mp holder j).congr rfl fun h => by simp [refers, e]
  · obtain ⟨bound, once⟩ := queue h
    rw [created.entries]
    split
    · rename_i recipient
      have room := created.room h recipient
      rw [List.length_append, List.length_singleton, List.map_append]
      refine ⟨room, List.nodup_append.mpr ⟨once, by simp, ?_⟩⟩
      intro j member j' member' e
      obtain ⟨x, found, rfl⟩ := List.mem_map.mp member
      obtain rfl : j' = i := by simpa using member'
      exact unreferred h ⟨x, found, e⟩
    · exact ⟨bound, once⟩

/-- A host that has just left a record's holder set. -/
theorem SlotLaw.of_dropHolder {slot : Option Record} {refers refers' : HostId → Prop} {h : HostId}
    (law : SlotLaw slot refers) (left : ∀ g, refers' g ↔ refers g ∧ g ≠ h) :
    SlotLaw (dropHolder h slot) refers' := by
  obtain ⟨free, used⟩ := law
  cases slot with
  | none => exact ⟨fun _ g refers' => free rfl g ((left g).mp refers').1,
      fun r found => absurd found (Option.not_mem_none r)⟩
  | some r =>
    obtain ⟨_, iff⟩ := used r (Option.mem_some_self r)
    have remaining : ∀ g, holds (without r.holders h) g = true ↔ refers' g := by
      intro g
      rw [holds_without, Bool.and_eq_true, bne_iff_ne, left, iff]
    simp only [dropHolder]
    split
    · rename_i last
      refine ⟨fun _ g => ?_, fun r found => absurd found (Option.not_mem_none r)⟩
      rw [← remaining, last, holds_zero]
      exact Bool.false_ne_true
    · rename_i nonempty
      refine ⟨fun free => (Option.some_ne_none _ free).elim, ?_⟩
      rintro _ ⟨⟩
      exact ⟨nonempty, remaining⟩

/-- The head entry of a queue that leaves with its holder removal keeps both laws (R24, R48). -/
theorem removeHead_poolLaw (h : HostId) (law : s.PoolLaw) : (s.removeHead h).PoolLaw := by
  obtain ⟨holder, queue⟩ := law
  cases hq : s.queues[h].entries with
  | nil =>
    have same : s.removeHead h = s := by unfold State.removeHead; rw [hq]
    rw [same]
    exact ⟨holder, queue⟩
  | cons e rest =>
    have slots : ∀ j : SlotId, (s.removeHead h).slots[j] =
        if j = e.slot then dropHolder h s.slots[j] else s.slots[j] := by
      intro j
      unfold State.removeHead
      rw [hq]
      exact removeHolder_slot ..
    have entries := removeHead_entries s h
    obtain ⟨_, once⟩ := queue h
    rw [hq, List.map_cons, List.nodup_cons] at once
    have own : ∀ j, (s.removeHead h).Refers h j ↔ s.Refers h j ∧ j ≠ e.slot := by
      intro j
      simp only [State.Refers, entries, if_pos, hq, List.tail_cons, List.mem_cons]
      constructor
      · rintro ⟨x, member, rfl⟩
        exact ⟨⟨x, .inr member, rfl⟩, fun same => once.1 (List.mem_map.mpr ⟨x, member, same⟩)⟩
      · rintro ⟨⟨x, rfl | member, rfl⟩, other⟩
        · exact absurd rfl other
        · exact ⟨x, member, rfl⟩
    have others : ∀ g j, g ≠ h → ((s.removeHead h).Refers g j ↔ s.Refers g j) := by
      intro g j other
      simp only [State.Refers, entries, if_neg other]
    refine ⟨(holderLaw_iff _).mpr fun j => ?_, fun g => ?_⟩
    · rw [slots]
      split
      · rename_i gone
        refine ((holderLaw_iff s).mp holder j).of_dropHolder (h := h) fun g => ?_
        by_cases eg : g = h
        · subst eg; simp [own, gone]
        · simp [others g j eg, eg]
      · rename_i other
        refine ((holderLaw_iff s).mp holder j).congr rfl fun g => ?_
        by_cases eg : g = h
        · subst eg; simp [own, other]
        · exact others g j eg
    · obtain ⟨bound, nodup⟩ := queue g
      rw [entries]
      split
      · exact ⟨by rw [List.length_tail]; omega, by rw [List.map_tail]; exact nodup.tail⟩
      · exact ⟨bound, nodup⟩

theorem offer_poolLaw (o : Offer) (law : s.PoolLaw) : (s.offer o).1.PoolLaw := by
  rcases offer_quiet_or_created s o with ⟨_, same⟩ | ⟨_, _, _, _, created⟩
  · exact poolLaw_congr law (fun i => by rw [same.slots]) same.entries
  · exact created.poolLaw law

theorem recordEdge_poolLaw (l : LineId) (k : EdgeKind) (t0 : HubTime) (snapshot : LineSet)
    (law : s.PoolLaw) : (s.recordEdge l k t0 snapshot).PoolLaw := by
  rcases recordEdge_cases s l k t0 snapshot with ⟨_, e⟩ | ⟨_, _, _, _, _, _, e⟩ | ⟨_, _, _, e⟩ <;> rw [e]
  · exact offer_poolLaw _ law
  · refine poolLaw_congr (offer_poolLaw _ law) (fun i => ?_) fun h => by rw [setFoldTarget_frame]
    rw [setFoldTarget_slot, slot_map_kept]
    exact fun _ => rfl
  · refine poolLaw_congr law (fun i => ?_) fun h => by rw [foldRecord_frame]
    rw [foldRecord_slot, slot_map_kept fun r => ?_]
    obtain ⟨_, _, folded, _⟩ := fold_keeps r s.lines[l].policy t0 snapshot
    rw [folded]

theorem PoolChange.poolLaw (change : PoolChange s t) (law : s.PoolLaw) : t.PoolLaw := by
  cases change with
  | quiet same => exact poolLaw_congr law (fun i => by rw [same.slots]) same.entries
  | offer o _ => exact offer_poolLaw o law
  | edge l k t0 snapshot => exact recordEdge_poolLaw l k t0 snapshot law
  | showing i =>
    refine poolLaw_congr law (fun j => ?_) fun h => by rw [showRecord_frame]
    rw [showRecord_slot, shownSlot_eq_map, slot_map_kept]
    exact fun _ => rfl
  | dropping l k =>
    refine poolLaw_congr law (fun j => ?_) fun h => by rw [dropFoldRef_frame]
    rw [dropFoldRef_slot, slot_map_kept]
    exact fun _ => rfl

/-- With no record and no entry, both laws hold. -/
theorem Cleared.poolLaw (cleared : Cleared s t) : t.PoolLaw := by
  refine ⟨fun i => ?_, fun h => ?_⟩
  · rw [cleared.slots]
    refine ⟨fun _ h => ?_, fun r found => absurd found (Option.not_mem_none r)⟩
    rintro ⟨x, member, _⟩
    rw [cleared.entries] at member
    cases member
  · rw [cleared.entries]
    exact ⟨Nat.zero_le _, List.nodup_nil⟩

theorem Effect.poolLaw (effect : Effect s t) (law : s.PoolLaw) : t.PoolLaw := by
  refine effect.keeps (fun same law => ?_) PoolChange.poolLaw (fun h => removeHead_poolLaw h)
    (fun cleared _ => cleared.poolLaw) law
  exact poolLaw_congr law (fun i => by rw [same.slots]) same.entries

/-- What every effect keeps and no port touches, every step keeps. -/
theorem step_keeps_of_effect {p : State → Prop} (e : step s = .next t)
    (ports : ∀ (u : State) ports, p u → p { u with ports := ports })
    (queue : ∀ (u : State) q, p u → p { u with pending := q })
    (effect : ∀ {u v : State}, Effect u v → p u → p v) (holds : p s) : p t := by
  refine step_keeps queue (fun c u v holds next => ?_) holds e
  obtain ⟨moved, w, acted, frame, _⟩ := exec_acts next
  rw [frame]
  exact ports _ _ (effect acted (ports _ _ holds))

/-- Settles O50: the holder law and the queue law, kept together by every operation of the pool. -/
theorem stepKeepsTheHolderAndQueueLaws : Obligations.StepKeepsTheHolderAndQueueLaws := by
  intro s t holder queue e
  exact step_keeps_of_effect (p := State.PoolLaw) e (fun _ _ => id) (fun _ _ => id) Effect.poolLaw
    ⟨holder, queue⟩

end Sys2Proof.Machine
end

section
/-!
CLAIM. The fold law, the record law and the law of the ports are kept by every step (O51, O57).
-/

namespace Sys2Proof.Machine

variable {s t u : State}

/-! ### The fold law (R3, R71) -/

/-- The fold law depends on the fold references and, of each record, on what it says of its line. -/
theorem foldLaw_congr (law : s.FoldLaw)
    (slots : ∀ i : SlotId, t.slots[i].map (fun r => (r.shown, r.foldTarget, r.source, r.kind)) =
      s.slots[i].map fun r => (r.shown, r.foldTarget, r.source, r.kind))
    (refs : ∀ (l : LineId) (k : EdgeKind), t.lines[l].foldRef k = s.lines[l].foldRef k) :
    t.FoldLaw := by
  refine foldLaw_intro (fun l k i ref => ?_) (fun i r l k found target => ?_)
  · rw [refs] at ref
    obtain ⟨r, found, shown, target, source, kind⟩ := foldLaw_ref law ref
    have same := slots i
    rw [found, Option.map_some, Option.map_eq_some_iff] at same
    obtain ⟨r', found', eq⟩ := same
    simp only [Prod.mk.injEq] at eq
    obtain ⟨shown', target', source', kind'⟩ := eq
    exact ⟨r', found', shown'.trans shown, target'.trans target, source'.trans source, kind'.trans kind⟩
  · have same := slots i
    rw [found, Option.map_some, eq_comm, Option.map_eq_some_iff] at same
    obtain ⟨r', found', eq⟩ := same
    simp only [Prod.mk.injEq] at eq
    rw [refs]
    exact foldLaw_target law found' (eq.2.1.trans target)

/-- A record just created is the fold target of no line (R16). -/
theorem Created.foldLaw {o : Offer} {i : SlotId} {recipients : HostSet}
    (created : Created s o i recipients t) (law : s.FoldLaw) : t.FoldLaw := by
  refine foldLaw_intro (fun l k j ref => ?_) (fun j r l k found target => ?_)
  · rw [created.lines] at ref
    obtain ⟨r, found, rest⟩ := foldLaw_ref law ref
    have used : j ≠ i := by rintro rfl; rw [created.free] at found; cases found
    exact ⟨r, by rw [created.slots, if_neg used]; exact found, rest⟩
  · rw [created.slots] at found
    split at found
    · cases found; cases target
    · rw [created.lines]
      exact foldLaw_target law found target

theorem offer_foldLaw (o : Offer) (law : s.FoldLaw) : (s.offer o).1.FoldLaw := by
  rcases offer_quiet_or_created s o with ⟨_, same⟩ | ⟨_, _, _, _, created⟩
  · exact foldLaw_congr law (fun i => by rw [same.slots]) same.refs
  · exact created.foldLaw law

/-- The fold references once one has been set. -/
theorem setFoldTarget_ref (s : State) (i : SlotId) (l m : LineId) (k k' : EdgeKind) :
    (s.setFoldTarget i l k).lines[m].foldRef k' =
      if m = l ∧ k' = k then some i else s.lines[m].foldRef k' := by
  rw [setFoldTarget_lines]
  have line := setLine_getElem s l m (s.lines[l].setFoldRef k (some i))
  rw [setLine_lines] at line
  rw [line]
  by_cases em : m = l
  · subst em
    by_cases ek : k' = k
    · subst ek; simp
    · simp [ek, setFoldRef_foldRef_other _ (some i) ek]
  · simp [em]

/-- A record of a line that holds no fold reference of its kind becomes the fold target (R17). -/
theorem setFoldTarget_foldLaw {i : SlotId} {l : LineId} {k : EdgeKind} {r : Record} (law : s.FoldLaw)
    (absent : s.lines[l].foldRef k = none) (used : s.slots[i] = some r) (fresh : r.foldTarget = none)
    (isOpen : r.shown = false) (source : r.source = .line l) (kind : r.kind = k.recordKind) :
    (s.setFoldTarget i l k).FoldLaw := by
  have unreferred : ∀ (m : LineId) k', s.lines[m].foldRef k' ≠ some i := by
    intro m k' ref
    obtain ⟨r', found, _, target, _⟩ := foldLaw_ref law ref
    rw [used] at found
    cases found
    rw [fresh] at target
    cases target
  refine foldLaw_intro (fun m k' j ref => ?_) (fun j r' m k' found target => ?_)
  · rw [setFoldTarget_ref] at ref
    rw [setFoldTarget_slot]
    split at ref
    · rename_i new
      obtain ⟨rfl, rfl⟩ := new
      cases ref
      rw [if_pos rfl, used]
      exact ⟨_, rfl, isOpen, rfl, source, kind⟩
    · have other : j ≠ i := by rintro rfl; exact unreferred m k' ref
      rw [if_neg other]
      exact foldLaw_ref law ref
  · rw [setFoldTarget_slot] at found
    rw [setFoldTarget_ref]
    split at found
    · rename_i e
      rw [e, used] at found
      cases found
      cases target
      rw [if_pos ⟨rfl, rfl⟩, e]
    · have ref := foldLaw_target law found target
      have other : ¬ (m = l ∧ k' = k) := by
        rintro ⟨rfl, rfl⟩
        rw [absent] at ref
        cases ref
      rw [if_neg other]
      exact ref

/-- What an offer of an edge creates is a record of that line and kind. -/
theorem recordEdge_foldLaw (l : LineId) (k : EdgeKind) (t0 : HubTime) (snapshot : LineSet)
    (law : s.FoldLaw) : (s.recordEdge l k t0 snapshot).FoldLaw := by
  rcases recordEdge_cases s l k t0 snapshot with ⟨_, e⟩ | ⟨i, _, _, _, absent, result, e⟩ |
    ⟨i, _, _, e⟩ <;> rw [e]
  · exact offer_foldLaw _ law
  · have created := created_of_result result
    exact setFoldTarget_foldLaw (created.foldLaw law) (by rw [created.lines]; exact absent)
      ((created.slots i).trans (if_pos rfl)) rfl rfl rfl rfl
  · refine foldLaw_congr law (fun j => ?_) fun m k' => by rw [foldRecord_frame]
    rw [foldRecord_slot, slot_map_kept fun r => ?_]
    obtain ⟨_, _, folded, _⟩ := fold_keeps r s.lines[l].policy t0 snapshot
    rw [folded]

theorem PoolChange.foldLaw (change : PoolChange s t) (law : s.FoldLaw) : t.FoldLaw := by
  cases change with
  | quiet same => exact foldLaw_congr law (fun i => by rw [same.slots]) same.refs
  | offer o _ => exact offer_foldLaw o law
  | edge l k t0 snapshot => exact recordEdge_foldLaw l k t0 snapshot law
  | showing i => exact (showRecord_spec law i).2.2.2
  | dropping l k => exact dropFoldRef_foldLaw law l k

theorem removeHead_foldLaw (h : HostId) (law : s.FoldLaw) : (s.removeHead h).FoldLaw := by
  unfold State.removeHead
  split
  · exact law
  · rename_i e rest _
    have same : (s.setQueue h { s.queues[h] with entries := rest }).FoldLaw := law
    exact (removeHolder_spec same e.slot h).2.2.2

/-- With no record and no fold reference, the fold law holds. -/
theorem Cleared.foldLaw (cleared : Cleared s t) : t.FoldLaw := by
  refine foldLaw_intro (fun l k i ref => ?_) (fun i r l k found _ => ?_)
  · rw [cleared.refs] at ref; cases ref
  · rw [cleared.slots] at found; cases found

theorem Effect.foldLaw (effect : Effect s t) (law : s.FoldLaw) : t.FoldLaw := by
  refine effect.keeps (fun same law => ?_) PoolChange.foldLaw (fun h => removeHead_foldLaw h)
    (fun cleared _ => cleared.foldLaw) law
  exact foldLaw_congr law (fun i => by rw [same.slots]) same.refs

/-- Settles O51: every operation of the pool keeps fold references and fold targets paired. -/
theorem stepKeepsTheFoldLaw : Obligations.StepKeepsTheFoldLaw := by
  intro s t law e
  exact step_keeps_of_effect (p := State.FoldLaw) e (fun _ _ => id) (fun _ _ => id) Effect.foldLaw law

/-! ### The record law (R5) and the port law (R174 to R176) -/

/-- The record law depends on the form of each record alone; a record freed leaves nothing to say. -/
theorem recordLaw_congr (law : s.RecordLaw)
    (slots : ∀ i : SlotId, t.slots[i] = none ∨
      t.slots[i].map Record.formed = s.slots[i].map Record.formed) : t.RecordLaw := by
  intro i r' found
  rcases slots i with free | same
  · rw [free] at found; cases found
  · rw [Option.mem_def.mp found, Option.map_some, eq_comm, Option.map_eq_some_iff] at same
    obtain ⟨r, used, eq⟩ := same
    exact eq ▸ law i r used

theorem offer_recordLaw {o : Offer} (formed : o.formed = true) (law : s.RecordLaw) :
    (s.offer o).1.RecordLaw := by
  rcases offer_quiet_or_created s o with ⟨_, same⟩ | ⟨_, _, _, _, created⟩
  · intro i; rw [same.slots]; exact law i
  · intro i r found
    rw [Option.mem_def, created.slots] at found
    split at found
    · cases found; exact formed
    · exact law i r found

theorem edgeOffer_formed (l : LineId) (k : EdgeKind) (t0 : HubTime) (snapshot : LineSet) :
    (edgeOffer l k t0 snapshot).formed = true := by cases k <;> rfl

theorem recordEdge_recordLaw (l : LineId) (k : EdgeKind) (t0 : HubTime) (snapshot : LineSet)
    (law : s.RecordLaw) : (s.recordEdge l k t0 snapshot).RecordLaw := by
  have offered := offer_recordLaw (edgeOffer_formed l k t0 snapshot) law
  rcases recordEdge_cases s l k t0 snapshot with ⟨_, e⟩ | ⟨_, _, _, _, _, _, e⟩ | ⟨_, _, _, e⟩ <;> rw [e]
  · exact offered
  · refine recordLaw_congr offered fun j => .inr ?_
    rw [setFoldTarget_slot, slot_map_kept]
    exact fun _ => rfl
  · refine recordLaw_congr law fun j => .inr ?_
    rw [foldRecord_slot, slot_map_kept fun r => ?_]
    obtain ⟨_, _, _, formed⟩ := fold_keeps r s.lines[l].policy t0 snapshot
    exact formed

theorem PoolChange.recordLaw (change : PoolChange s t) (law : s.RecordLaw) : t.RecordLaw := by
  cases change with
  | quiet same => exact recordLaw_congr law fun i => .inr (by rw [same.slots])
  | offer o formed => exact offer_recordLaw formed law
  | edge l k t0 snapshot => exact recordEdge_recordLaw l k t0 snapshot law
  | showing i =>
    refine recordLaw_congr law fun j => .inr ?_
    rw [showRecord_slot, shownSlot_eq_map, slot_map_kept]
    exact fun _ => rfl
  | dropping l k =>
    refine recordLaw_congr law fun j => .inr ?_
    rw [dropFoldRef_slot, slot_map_kept]
    exact fun _ => rfl

theorem Cleared.recordLaw (cleared : Cleared s t) : t.RecordLaw := by
  intro i r found
  rw [cleared.slots] at found
  cases found

theorem Effect.recordLaw (effect : Effect s t) (law : s.RecordLaw) : t.RecordLaw := by
  refine effect.keeps (fun same law => ?_) PoolChange.recordLaw (fun {_} h law => ?_)
    (fun cleared _ => cleared.recordLaw) law
  · exact recordLaw_congr law fun i => .inr (by rw [same.slots])
  · refine recordLaw_congr law fun j => (removeHead_slot _ h j).imp_right ?_
    rintro ⟨_, slot⟩
    rw [slot, Option.map_map]
    rfl

/-- Settles O57: the moves of a port and the operations of the pool. -/
theorem stepKeepsThePortAndRecordLaws : Obligations.StepKeepsThePortAndRecordLaws := by
  refine ⟨fun s t law e => ?_, fun s t law e => ?_⟩
  · refine step_keeps (p := fun s => ∀ h : HostId, s.ports[h].Law) (fun _ _ => id)
      (fun c u v law next h => ?_) law e
    obtain ⟨_, _, _, _, moves⟩ := exec_acts next
    exact (moves h).keeps_law (law h)
  · exact step_keeps_of_effect (p := State.RecordLaw) e (fun _ _ => id) (fun _ _ => id)
      Effect.recordLaw law

end Sys2Proof.Machine
end

section
/-!
CLAIM. The content of a SHOWN record never changes (O59).
-/

namespace Sys2Proof.Machine

variable {s t u : State} {i : SlotId} {r : Record}

/-! ### The pool's second law (R19) -/

/-- A SHOWN record is no fold target (R3, R71). -/
theorem shown_untargeted (law : s.FoldLaw) (used : s.slots[i] = some r) (shown : r.shown = true) :
    r.foldTarget = none := by
  cases target : r.foldTarget with
  | none => rfl
  | some p =>
    obtain ⟨r', found, isOpen, _⟩ := foldLaw_ref law (foldLaw_target law used target)
    rw [used] at found
    cases found
    rw [shown] at isOpen
    cases isOpen

/-- No fold reference leads to a SHOWN record (R71). -/
theorem shown_unreferred (law : s.FoldLaw) (used : s.slots[i] = some r) (shown : r.shown = true)
    (l : LineId) (k : EdgeKind) : s.lines[l].foldRef k ≠ some i := by
  intro ref
  obtain ⟨r', found, isOpen, _⟩ := foldLaw_ref law ref
  rw [used] at found
  cases found
  rw [shown] at isOpen
  cases isOpen

/-- An offer takes a FREE slot, and so no slot in use. -/
theorem offer_used (o : Offer) (used : s.slots[i] = some r) : (s.offer o).1.slots[i] = some r := by
  rcases offer_quiet_or_created s o with ⟨_, same⟩ | ⟨j, _, _, _, created⟩
  · rw [same.slots]; exact used
  · have other : i ≠ j := by rintro rfl; rw [created.free] at used; cases used
    rw [created.slots, if_neg other]
    exact used

/-- No operation of the pool that frees nothing changes a SHOWN record. -/
theorem PoolChange.shown_kept (change : PoolChange s t) (law : s.FoldLaw) (used : s.slots[i] = some r)
    (shown : r.shown = true) : t.slots[i] = some r := by
  cases change with
  | quiet same => rw [same.slots]; exact used
  | offer o _ => exact offer_used o used
  | edge l k t0 snapshot =>
    rcases recordEdge_cases s l k t0 snapshot with ⟨_, e⟩ | ⟨j, _, _, _, _, result, e⟩ |
      ⟨j, _, ref, e⟩ <;> rw [e]
    · exact offer_used _ used
    · have other : i ≠ j := by
        rintro rfl
        rw [(created_of_result result).free] at used
        cases used
      rw [setFoldTarget_slot, if_neg other]
      exact offer_used _ used
    · have other : i ≠ j := by rintro rfl; exact shown_unreferred law used shown l k ref
      rw [foldRecord_slot, if_neg other]
      exact used
  | showing j =>
    have same : { r with shown := true, foldTarget := none } = r := by
      rw [← shown, ← shown_untargeted law used shown]
    rw [showRecord_slot, used]
    split
    · exact congrArg some same
    · rfl
  | dropping l k =>
    rw [dropFoldRef_slot, if_neg (shown_unreferred law used shown l k)]
    exact used

theorem PoolChanges.shown_kept (path : PoolChanges s t) (law : s.FoldLaw) (used : s.slots[i] = some r)
    (shown : r.shown = true) : t.slots[i] = some r ∧ t.FoldLaw := by
  induction path with
  | refl => exact ⟨used, law⟩
  | tail _ last ih => exact ⟨last.shown_kept ih.2 ih.1 shown, last.foldLaw ih.2⟩

/-- What one command can leave in a slot that held the SHOWN record `r`: nothing, the record with another
holder set, or the session record of the session end that freed it (R19, R25). -/
def KeptOrReplaced (s : State) (r : Record) (t : State) (slot : Option Record) : Prop :=
  ∀ r' ∈ slot, r' = { r with holders := r'.holders } ∨
    (r'.seq = s.nextSeq ∧ t.nextSeq = s.nextSeq + 1#16 ∧ r'.shown = false ∧
      r'.kind ∈ [Kind.hostDetached, .hostLost, .hostEvicted])

/-- A slot after holder removals keeps its record's content, if it keeps the record. -/
theorem removed_content (used : s.slots[i] = some r) (h : HostId) (n : Nat) {r' : Record}
    (found : (s.removeOldest h n).slots[i] = some r') : r' = { r with holders := r'.holders } := by
  rcases removeOldest_slot s h n i with free | ⟨holders, slot⟩
  · rw [free] at found; cases found
  · rw [slot, used] at found
    cases found
    rfl

theorem Effect.shown_content (effect : Effect s t) (law : s.FoldLaw) (used : s.slots[i] = some r)
    (shown : r.shown = true) : KeptOrReplaced s r t t.slots[i] := by
  intro r' found
  cases effect with
  | changes path =>
    rw [(path.shown_kept law used shown).1] at found
    cases found
    exact .inl rfl
  | acknowledgement h n before after =>
    rw [after.slots] at found
    exact .inl (removed_content (by rw [before.slots]; exact used) h n found)
  | @sessionEnd u v h n o before removed formed kind after =>
    have old : ∀ r', v.slots[i] = some r' → r' = { r with holders := r'.holders } := by
      intro r' found
      rw [removed.slots] at found
      exact removed_content (by rw [before.slots]; exact used) h n found
    have seq : v.nextSeq = s.nextSeq := by
      rw [removed.nextSeq, removeOldest_nextSeq, before.nextSeq]
    rw [after.slots] at found
    rcases offer_quiet_or_created v o with ⟨_, same⟩ | ⟨j, _, _, _, created⟩
    · rw [same.slots] at found
      exact .inl (old r' found)
    · rw [Option.mem_def, created.slots] at found
      split at found
      · cases found
        exact .inr ⟨seq, by rw [after.nextSeq, created.nextSeq, seq], rfl, kind⟩
      · exact .inl (old r' found)
  | reset cleared =>
    rw [cleared.slots] at found
    cases found

/-- Settles O59: an operation of the pool changes no SHOWN record but by removing holders, and only a
session end's own record can take the slot within the same command. -/
theorem shownContentNeverChanges : Obligations.ShownContentNeverChanges := by
  intro c s t i r law e used shown
  obtain ⟨ports, u, effect, frame, _⟩ := exec_acts e
  have content : KeptOrReplaced s r u u.slots[i] :=
    effect.shown_content (s := { s with ports := ports }) law used shown
  rw [frame]
  cases found : u.slots[i] with
  | none => trivial
  | some r' => exact content r' found

end Sys2Proof.Machine
end

section
/-!
CLAIM. No command reads or changes the queue of commands, and a step takes its front (O2, O1).
-/

namespace Sys2Proof.Machine

variable {s : State} {q : List Instr}

/-! ### The queue of commands (log 2) -/

/-- The state with another queue of waiting commands. -/
def requeue (q : List Instr) (s : State) : State := { s with pending := q }

/-- The reply with another queue of waiting commands in its state. -/
def requeueReply (q : List Instr) (r : Reply) : Reply := { r with state := requeue q r.state }

/-- The outcome with another queue of waiting commands in its state. -/
def requeueOutcome (q : List Instr) :
    Host.Outcome State Fault Refusal → Host.Outcome State Fault Refusal
  | .next t => .next (requeue q t)
  | .fault r => .fault r
  | .refused r => .refused r

/-- Two decisions on the same condition, whose branches correspond. -/
theorem ite_eq_apply {α β : Type} {f : α → β} {c : Prop} [Decidable c] {a b : α} {a' b' : β}
    (yes : a' = f a) (no : b' = f b) : (if c then a' else b') = f (if c then a else b) := by
  split
  · exact yes
  · exact no

@[simp] theorem requeue_slots (q : List Instr) (s : State) : (requeue q s).slots = s.slots := rfl
@[simp] theorem requeue_queues (q : List Instr) (s : State) : (requeue q s).queues = s.queues := rfl
@[simp] theorem requeue_lines (q : List Instr) (s : State) : (requeue q s).lines = s.lines := rfl
@[simp] theorem requeue_sessions (q : List Instr) (s : State) : (requeue q s).sessions = s.sessions := rfl

@[simp] theorem requeue_watches (q : List Instr) (s : State) : (requeue q s).watches = s.watches := rfl
@[simp] theorem requeue_outputs (q : List Instr) (s : State) : (requeue q s).outputs = s.outputs := rfl
@[simp] theorem requeue_ports (q : List Instr) (s : State) : (requeue q s).ports = s.ports := rfl

theorem requeue_setLine (q : List Instr) (s : State) (l : LineId) (x : Line) :
    (requeue q s).setLine l x = requeue q (s.setLine l x) := rfl

theorem ifAttached_requeue {rq : Request} {k k' : Reply} (taken : k' = requeueReply q k) :
    ifAttached rq (requeue q s) k' = requeueReply q (ifAttached rq s k) := by
  unfold ifAttached
  rw [requeue_sessions]
  split
  · rfl
  · rfl
  · exact taken

/-- The requests whose decisions are on the payload and on readings of the state. -/
theorem reading_requeue {command : Request → State → Reply}
    (listed : command ∈ [subscribeLinesReply, subscribeHubReply, readSubscriptionsReply,
      queueStatusReply, lineDisarmReply, lineStatusReply, watchCancelReply, watchReadReply, outClaimReply,
      outReleaseReply, outDriveReply, outPulseReply, outBindReply, outUnbindReply, outSafeReply,
      outStatusReply, setAttentionReply, clearAttentionReply, restartHubReply]) (rq : Request)
    (s : State) (q : List Instr) :
    command rq (requeue q s) = requeueReply q (command rq s) := by
  simp only [List.mem_cons, List.not_mem_nil, or_false] at listed
  rcases listed with rfl | rfl | rfl | rfl | rfl | rfl | rfl | rfl | rfl | rfl | rfl | rfl | rfl | rfl |
    rfl | rfl | rfl | rfl | rfl
  all_goals
    refine ifAttached_requeue ?_
    repeat' (first | refine ite_eq_apply (f := requeueReply q) ?_ ?_ | split)
    all_goals rfl

theorem lineSetCheck_requeue (rq : Request) (named : LineSet) :
    lineSetCheck rq (requeue q s) named = lineSetCheck rq s named := rfl

theorem freeSlot?_requeue : (requeue q s).freeSlot? = s.freeSlot? := rfl

theorem offer_requeue (o : Offer) :
    (requeue q s).offer o = (requeue q (s.offer o).1, (s.offer o).2) := by
  change _ = Prod.map (requeue q) id (s.offer o)
  unfold State.offer
  refine ite_eq_apply (f := Prod.map (requeue q) id) rfl ?_
  rw [freeSlot?_requeue]
  split
  · exact ite_eq_apply (f := Prod.map (requeue q) id) rfl rfl
  · exact ite_eq_apply (f := Prod.map (requeue q) id) rfl rfl

theorem takeOffers_requeue (offers : List Offer) :
    (requeue q s).takeOffers offers = requeue q (s.takeOffers offers) := by
  unfold State.takeOffers
  induction offers generalizing s with
  | nil => rfl
  | cons o os ih => rw [List.foldl_cons, List.foldl_cons, offer_requeue, ih]

theorem removeHolder_requeue (i : SlotId) (h : HostId) :
    (requeue q s).removeHolder i h = requeue q (s.removeHolder i h) := by
  unfold State.removeHolder
  rw [requeue_slots]
  split
  · rfl
  · rename_i r _
    dsimp only
    refine ite_eq_apply (f := requeue q) ?_ rfl
    cases r.foldTarget <;> rfl

theorem removeHead_requeue (h : HostId) : (requeue q s).removeHead h = requeue q (s.removeHead h) := by
  unfold State.removeHead
  rw [requeue_queues]
  split
  · rfl
  · rename_i e rest _
    exact removeHolder_requeue (s := s.setQueue h { s.queues[h] with entries := rest }) e.slot h

theorem removeOldest_requeue (h : HostId) (n : Nat) :
    (requeue q s).removeOldest h n = requeue q (s.removeOldest h n) := by
  induction n generalizing s with
  | zero => rfl
  | succ n ih => rw [State.removeOldest, State.removeOldest, removeHead_requeue, ih]

theorem endSession_requeue (h : HostId) (c : EndCause) :
    (requeue q s).endSession h c = requeue q (s.endSession h c) := by
  have teardown : ∀ v : State, (requeue q v).teardown h = requeue q (v.teardown h) := by
    intro v
    unfold State.teardown
    dsimp only
    rw [show (requeue q v).queues[h].entries.length = v.queues[h].entries.length from rfl,
      removeOldest_requeue]
    rfl
  unfold State.endSession
  dsimp only
  rw [show (requeue q s).setSession h ((requeue q s).sessions[h].ended c) =
    requeue q (s.setSession h (s.sessions[h].ended c)) from rfl, teardown, offer_requeue]
  rfl

theorem showEntries_requeue (entries : List Entry) :
    (requeue q s).showEntries entries = requeue q (s.showEntries entries) := by
  have one : ∀ (v : State) (i : SlotId), (requeue q v).showRecord i = requeue q (v.showRecord i) := by
    intro v i
    unfold State.showRecord
    rw [requeue_slots]
    split
    · rfl
    · rename_i r _
      cases r.foldTarget <;> rfl
  unfold State.showEntries
  induction entries generalizing s with
  | nil => rfl
  | cons e es ih => rw [List.foldl_cons, List.foldl_cons, one, ih]

theorem dropFoldRefs_requeue (l : LineId) :
    (requeue q s).dropFoldRefs l = requeue q (s.dropFoldRefs l) := by
  have one : ∀ (v : State) (k : EdgeKind),
      (requeue q v).dropFoldRef l k = requeue q (v.dropFoldRef l k) := by
    intro v k
    unfold State.dropFoldRef
    rw [requeue_lines]
    split
    · rfl
    · rename_i i _
      dsimp only
      rw [requeue_setLine, requeue_slots]
      split <;> rfl
  rw [State.dropFoldRefs, one, one]
  rfl

theorem dropFoldRefsOf_requeue (named : LineSet) :
    (requeue q s).dropFoldRefsOf named = requeue q (s.dropFoldRefsOf named) := by
  unfold State.dropFoldRefsOf
  induction members named generalizing s with
  | nil => rfl
  | cons l ls ih => rw [List.foldl_cons, List.foldl_cons, dropFoldRefs_requeue, ih]

theorem recordEdge_requeue (l : LineId) (k : EdgeKind) (t0 : HubTime) (snapshot : LineSet) :
    (requeue q s).recordEdge l k t0 snapshot = requeue q (s.recordEdge l k t0 snapshot) := by
  have target : ∀ (v : State) i,
      (requeue q v).setFoldTarget i l k = requeue q (v.setFoldTarget i l k) := by
    intro v i
    unfold State.setFoldTarget
    dsimp only
    rw [requeue_lines, requeue_setLine, requeue_slots]
    split <;> rfl
  have offered : (requeue q s).offerEdge l k t0 snapshot = requeue q (s.offerEdge l k t0 snapshot) := by
    unfold State.offerEdge
    rw [offer_requeue]
    dsimp only
    split
    · exact ite_eq_apply (f := requeue q) rfl (target ..)
    · rfl
  unfold State.recordEdge
  rw [requeue_lines]
  split
  · exact offered
  · exact offered
  · rename_i i _ _
    unfold State.foldRecord
    rw [requeue_slots]
    split <;> rfl

theorem reportEdge_requeue (l : LineId) (k : EdgeKind) (t0 : HubTime) (snapshot : LineSet) :
    (requeue q s).reportEdge l k t0 snapshot = requeue q (s.reportEdge l k t0 snapshot) := by
  have offered : ∀ (v : State) (before after : List Offer),
      (((requeue q v).takeOffers before).recordEdge l k t0 snapshot).takeOffers after =
        requeue q (((v.takeOffers before).recordEdge l k t0 snapshot).takeOffers after) := by
    intro v before after
    rw [takeOffers_requeue, recordEdge_requeue, takeOffers_requeue]
  unfold State.reportEdge
  dsimp only
  rw [show (requeue q s).fireReflexes l k = requeue q (s.fireReflexes l k) from rfl,
    show (requeue q (s.fireReflexes l k)).reflexOffers l k t0 = (s.fireReflexes l k).reflexOffers l k t0
      from rfl]
  split
  · exact recordEdge_requeue ..
  · exact offered { s.fireReflexes l k with draws := (s.fireReflexes l k).draws + 1 } _ _

theorem qualifyEdge_requeue (l : LineId) (t0 : HubTime) :
    (requeue q s).qualifyEdge l t0 = requeue q (s.qualifyEdge l t0) := by
  have ends : ∀ v w : State, v = requeue q w → v.setLine l v.lines[l].endDisarming =
      requeue q (w.setLine l w.lines[l].endDisarming) := by
    rintro _ w rfl
    rfl
  exact ends _ _ (ite_eq_apply (f := requeue q)
    (reportEdge_requeue (s := s.setLine l (s.lines[l].qualify t0)) ..) rfl)

theorem attach_requeue (rq : Request) :
    attachReply rq (requeue q s) = requeueReply q (attachReply rq s) := by
  unfold attachReply
  refine ite_eq_apply (f := requeueReply q) rfl ?_
  split
  · rename_i period _
    dsimp only
    rw [show (requeue q s).openSession rq.host period = requeue q (s.openSession rq.host period) from rfl,
      offer_requeue]
    rfl
  · rfl

theorem detach_requeue (rq : Request) :
    detachReply rq (requeue q s) = requeueReply q (detachReply rq s) := by
  refine ifAttached_requeue (ite_eq_apply (f := requeueReply q) rfl ?_)
  rw [endSession_requeue]
  rfl

theorem evict_requeue (rq : Request) :
    evictReply rq (requeue q s) = requeueReply q (evictReply rq s) := by
  refine ifAttached_requeue ?_
  split
  · split
    · rfl
    · iterate 4 refine ite_eq_apply (f := requeueReply q) rfl ?_
      rw [endSession_requeue]
      rfl
  · rfl

theorem sendNote_requeue (rq : Request) :
    sendNoteReply rq (requeue q s) = requeueReply q (sendNoteReply rq s) := by
  refine ifAttached_requeue ?_
  split
  · rfl
  refine ite_eq_apply (f := requeueReply q) rfl ?_
  split
  · rfl
  refine ite_eq_apply (f := requeueReply q) rfl ?_
  refine ite_eq_apply (f := requeueReply q) rfl ?_
  dsimp only
  rw [offer_requeue, show (requeue q s).attachedSet = s.attachedSet from rfl]
  generalize s.offer _ = taken
  obtain ⟨after, result⟩ := taken
  cases result <;> rfl

theorem adjustTime_requeue (rq : Request) :
    adjustTimeReply rq (requeue q s) = requeueReply q (adjustTimeReply rq s) := by
  refine ifAttached_requeue ?_
  split
  · refine ite_eq_apply (f := requeueReply q) rfl ?_
    refine ite_eq_apply (f := requeueReply q) rfl ?_
    rename_i b3 b2 b1 b0 _
    have taken := offer_requeue (s := { s with hubTime := s.hubTime + word b3 b2 b1 b0 }) (q := q)
      (adjustedOffer rq.host (s.hubTime + word b3 b2 b1 b0) (word b3 b2 b1 b0))
    have fields : { requeue q s with hubTime := s.hubTime + word b3 b2 b1 b0 } =
        requeue q { s with hubTime := s.hubTime + word b3 b2 b1 b0 } := rfl
    dsimp only
    rw [show (requeue q s).hubTime = s.hubTime from rfl, fields, taken]
    rfl
  · rfl

theorem readEvents_requeue (rq : Request) :
    readEventsReply rq (requeue q s) = requeueReply q (readEventsReply rq s) := by
  refine ifAttached_requeue ?_
  split
  · refine ite_eq_apply (f := requeueReply q) rfl ?_
    dsimp only
    rw [showEntries_requeue]
    rfl
  · rfl

theorem ackEvents_requeue (rq : Request) :
    ackEventsReply rq (requeue q s) = requeueReply q (ackEventsReply rq s) := by
  refine ifAttached_requeue ?_
  split
  · refine ite_eq_apply (f := requeueReply q) rfl ?_
    dsimp only
    rw [requeue_queues]
    split
    · rfl
    · refine ite_eq_apply (f := requeueReply q) rfl ?_
      rw [removeOldest_requeue]
      rfl
  · rfl

theorem lineConfigure_requeue (rq : Request) :
    lineConfigureReply rq (requeue q s) = requeueReply q (lineConfigureReply rq s) := by
  refine ifAttached_requeue ?_
  split
  · split
    · refine ite_eq_apply (f := requeueReply q) rfl ?_
      refine ite_eq_apply (f := requeueReply q) rfl ?_
      dsimp only
      rw [dropFoldRefs_requeue]
      rfl
    · rfl
  · rfl

theorem lineArm_requeue (rq : Request) :
    lineArmReply rq (requeue q s) = requeueReply q (lineArmReply rq s) := by
  refine ifAttached_requeue ?_
  split
  · rw [lineSetCheck_requeue]
    split <;> rfl
  · rfl

theorem lineRelease_requeue (rq : Request) :
    lineReleaseReply rq (requeue q s) = requeueReply q (lineReleaseReply rq s) := by
  refine ifAttached_requeue ?_
  split
  · rw [lineSetCheck_requeue]
    split
    · rfl
    · rw [dropFoldRefsOf_requeue]; rfl
  · rfl

theorem watchInstall_requeue (rq : Request) :
    watchInstallReply rq (requeue q s) = requeueReply q (watchInstallReply rq s) := by
  refine ifAttached_requeue ?_
  split
  · rfl
  · rw [show (requeue q s).freeWatch? = s.freeWatch? from rfl]
    split <;> rfl

theorem outSeize_requeue (rq : Request) :
    outSeizeReply rq (requeue q s) = requeueReply q (outSeizeReply rq s) := by
  refine ifAttached_requeue ?_
  split
  · rename_i outs _
    iterate 3 refine ite_eq_apply (f := requeueReply q) rfl ?_
    have seized : ((requeue q s).postSeized rq.host outs).mapOutputs outs (fun _ o => o.seize rq.host) =
        requeue q ((s.postSeized rq.host outs).mapOutputs outs fun _ o => o.seize rq.host) := rfl
    rw [seized, takeOffers_requeue]
    rfl
  · rfl

theorem commandOf_requeue (code : Byte) (rq : Request) :
    commandOf code rq (requeue q s) = requeueReply q (commandOf code rq s) := by
  change (fun command : Request → State → Reply =>
    command rq (requeue q s) = requeueReply q (command rq s)) (commandOf code)
  unfold commandOf
  split
  case h_1 => exact attach_requeue rq
  case h_2 => exact detach_requeue rq
  case h_3 => exact evict_requeue rq
  case h_6 => exact sendNote_requeue rq
  case h_8 => exact adjustTime_requeue rq
  case h_12 => exact readEvents_requeue rq
  case h_13 => exact ackEvents_requeue rq
  case h_15 => exact lineConfigure_requeue rq
  case h_16 => exact lineArm_requeue rq
  case h_18 => exact lineRelease_requeue rq
  case h_20 => exact watchInstall_requeue rq
  case h_29 => exact outSeize_requeue rq
  case h_5 => exact ite_eq_apply (f := requeueReply q) rfl rfl
  case h_7 => exact ite_eq_apply (f := requeueReply q) rfl rfl
  case h_34 => rfl
  all_goals exact reading_requeue (by simp) rq s q

theorem restarted_requeue (h : HostId) : (requeue q s).restarted h = requeue q (s.restarted h) :=
  ite_eq_apply (f := requeue q) rfl rfl

theorem takeFrame_requeue (h : HostId) (code tag : Byte) (payload : List Byte) :
    (requeue q s).takeFrame h code tag payload = requeue q (s.takeFrame h code tag payload) := by
  refine ite_eq_apply (f := requeue q) ?_ ?_
  · unfold State.takeRepeat
    rw [restartTimer_eq, restartTimer_eq, restarted_requeue]
    rfl
  · rw [take_eq, take_eq, restarted_requeue, commandOf_requeue]
    rfl

theorem receiveByte_requeue (h : HostId) (bytes : List Byte) (crc byte : Byte) :
    (requeue q s).receiveByte h bytes crc byte = requeue q (s.receiveByte h bytes crc byte) := by
  unfold State.receiveByte
  split
  · exact ite_eq_apply (f := requeue q) rfl rfl
  · refine ite_eq_apply (f := requeue q) rfl ?_
    exact ite_eq_apply (f := requeue q) (takeFrame_requeue ..) rfl
  · rfl

theorem sendByte_requeue (h : HostId) (ready : Bool) (rest : List Byte) (age : Nat) :
    (requeue q s).sendByte h ready rest age = requeue q (s.sendByte h ready rest age) := by
  have drawn : (if (!ready && !surelyReady age) = true then
        { requeue q s with draws := (requeue q s).draws + 1 } else requeue q s) =
      requeue q (if (!ready && !surelyReady age) = true then { s with draws := s.draws + 1 } else s) :=
    ite_eq_apply (f := requeue q) rfl rfl
  unfold State.sendByte
  dsimp only
  rw [drawn]
  split
  · rfl
  · exact ite_eq_apply (f := requeue q) rfl rfl

theorem endWatch_requeue (w : WatchId) (kind : Kind) (after : Watch) :
    (requeue q s).endWatch w kind after = requeue q (s.endWatch w kind after) := by
  have offered := offer_requeue (s := s.setWatch w after) (q := q)
    (watchOffer kind w s.watches[w] s.hubTime s.settledLevels)
  unfold State.endWatch
  dsimp only
  rw [show (requeue q s).setWatch w after = requeue q (s.setWatch w after) from rfl,
    requeue_watches, show (requeue q s).hubTime = s.hubTime from rfl,
    show (requeue q s).settledLevels = s.settledLevels from rfl, offered]
  split <;> rfl

theorem frameError_requeue (h : HostId) (crc : Byte) :
    execFrameError h crc (requeue q s) = requeueOutcome q (execFrameError h crc s) := by
  unfold execFrameError
  rw [requeue_ports]
  split
  · exact ite_eq_apply (f := requeueOutcome q) rfl rfl
  · rfl

theorem frameRefusedForLength_requeue (h : HostId) (length : Byte) :
    execFrameRefusedForLength h length (requeue q s) =
      requeueOutcome q (execFrameRefusedForLength h length s) := by
  unfold execFrameRefusedForLength
  rw [requeue_ports]
  split
  · exact ite_eq_apply (f := requeueOutcome q) rfl rfl
  · rfl

theorem responseSent_requeue (h : HostId) :
    execResponseSent h (requeue q s) = requeueOutcome q (execResponseSent h s) := by
  unfold execResponseSent
  rw [requeue_ports]
  split <;> rfl

theorem byteCompletes_requeue (h : HostId) (byte : Byte) :
    execByteCompletes h byte (requeue q s) = requeueOutcome q (execByteCompletes h byte s) := by
  unfold execByteCompletes
  rw [requeue_ports]
  split
  · rfl
  · exact congrArg _ (receiveByte_requeue ..)
  · rfl
  · exact congrArg _ (sendByte_requeue ..)
  · rfl

theorem tick_requeue (event : TickEvent) :
    execTick event (requeue q s) = requeueOutcome q (execTick event s) := by
  cases event with
  | whole levels =>
    refine ite_eq_apply (f := requeueOutcome q) rfl ?_
    exact ite_eq_apply (f := requeueOutcome q) rfl rfl
  | handedOut levels => exact ite_eq_apply (f := requeueOutcome q) rfl rfl
  | counted => exact ite_eq_apply (f := requeueOutcome q) rfl rfl

theorem timeWrap_requeue (levels : LineSet) :
    execTimeWrap levels (requeue q s) = requeueOutcome q (execTimeWrap levels s) := by
  have wrapped : ∀ v : State, (requeue q v).wrap = requeue q v.wrap := fun v =>
    congrArg Prod.fst (offer_requeue (s := { v with
      hubTime := 0#32, epoch := v.epoch + 1#16, countOwed := false }) (wrapOffer (v.epoch + 1#16)))
  refine ite_eq_apply (f := requeueOutcome q) rfl ?_
  refine ite_eq_apply (f := requeueOutcome q) (congrArg _ (wrapped s)) ?_
  exact ite_eq_apply (f := requeueOutcome q) rfl (congrArg _ (wrapped (s.handTick levels)))

theorem qualificationStart_requeue (l : LineId) :
    execQualificationStart l (requeue q s) = requeueOutcome q (execQualificationStart l s) := by
  refine ite_eq_apply (f := requeueOutcome q) (congrArg _ ?_) rfl
  exact ite_eq_apply (f := requeue q) (qualifyEdge_requeue ..) rfl

theorem qualifiedEdge_requeue (l : LineId) :
    execQualifiedEdge l (requeue q s) = requeueOutcome q (execQualifiedEdge l s) := by
  unfold execQualifiedEdge
  rw [requeue_lines]
  split
  · exact ite_eq_apply (f := requeueOutcome q) (congrArg _ (qualifyEdge_requeue ..)) rfl
  · exact ite_eq_apply (f := requeueOutcome q) (congrArg _ (qualifyEdge_requeue ..)) rfl

theorem checkExpiry_requeue (w : WatchId) :
    execCheckExpiry w (requeue q s) = requeueOutcome q (execCheckExpiry w s) := by
  refine ite_eq_apply (f := requeueOutcome q) ?_ rfl
  rw [requeue_watches, show (requeue q s).settledLevels = s.settledLevels from rfl]
  dsimp only
  split
  · rfl
  · exact congrArg _ (endWatch_requeue ..)
  · exact congrArg _ (endWatch_requeue ..)

theorem pulseExpiry_requeue (o : OutputId) :
    execPulseExpiry o (requeue q s) = requeueOutcome q (execPulseExpiry o s) := by
  unfold execPulseExpiry
  rw [requeue_outputs]
  split
  · rfl
  · exact ite_eq_apply (f := requeueOutcome q) rfl rfl

/-- A command does the same whatever waits, and leaves what waits. -/
theorem exec_requeue (c : Instr) : exec c (requeue q s) = requeueOutcome q (exec c s) := by
  cases c
  case powerOnReset | externalReset => rfl
  case tick event => exact tick_requeue event
  case timeWrap levels => exact timeWrap_requeue levels
  case qualificationStart l => exact qualificationStart_requeue l
  case qualifiedEdge l => exact qualifiedEdge_requeue l
  case checkExpiry w => exact checkExpiry_requeue w
  case pulseExpiry o => exact pulseExpiry_requeue o
  case supervisionExpiry h =>
    exact ite_eq_apply (f := requeueOutcome q) (congrArg _ (endSession_requeue ..)) rfl
  case glitch | frameDiscarded | selectFalls | selectRises =>
    exact ite_eq_apply (f := requeueOutcome q) rfl rfl
  case frameError h crc => exact frameError_requeue h crc
  case frameRefusedForLength h length => exact frameRefusedForLength_requeue h length
  case responseSent h => exact responseSent_requeue h
  case byteCompletes h byte => exact byteCompletes_requeue h byte
  all_goals
    rw [exec_request rfl, exec_request rfl]
    exact ite_eq_apply (f := requeueOutcome q) (congrArg _ (takeFrame_requeue ..)) rfl

/-- Settles O2: both sides of every decision go on alike, whatever waits. -/
theorem commandsLeaveTheQueueAlone : Obligations.CommandsLeaveTheQueueAlone := by
  intro c s q
  refine (exec_requeue c).trans ?_
  cases exec c s <;> rfl

/-- Settles O1, from the definition of a step. -/
theorem stepTakesTheFrontCommand : Obligations.StepTakesTheFrontCommand := by
  refine ⟨fun s empty => ?_, fun s c rest front => ?_⟩
  · rw [step, empty]
  · rw [step, front]

end Sys2Proof.Machine
end

section
/-!
CLAIM. What the resets leave, and every law right after reset (O3, O49).
-/

namespace Sys2Proof.Machine

/-! ### Resets -/

/-- Settles O3, field by field from the definition of a hard reset. -/
theorem resetsInitialiseEveryBlock : Obligations.ResetsInitialiseEveryBlock := by
  intro straps levels selects s
  refine ⟨s.hardReset .powerOn straps levels selects, rfl, rfl, rfl, fun i => ?slots, rfl, rfl,
    fun h => ⟨?queue, ?subscription, ?session, ?attention, ?port⟩, fun l => ?line, rfl, rfl, rfl, rfl,
    fun w => ?watch, fun o => ?output, rfl, rfl⟩
  case attention => simp [State.hardReset, Attention.cleared, Attention.evaluate, attentionCondition,
    Session.afterReset]
  all_goals simp [State.hardReset, Session.afterReset, Port.afterReset, Line.afterReset, Level.ofBit,
    Watch.blank]

theorem reset_queue (h : HostId) : State.reset.queues[h] =
    { entries := [], pendingMisses := 0, missedTotal := 0, threshold := 1 } := by simp [State.reset]

theorem reset_line (l : LineId) : State.reset.lines[l] = Line.initial := by simp [State.reset]

theorem reset_watch (w : WatchId) : State.reset.watches[w] = Watch.blank := by simp [State.reset]

theorem reset_output (o : OutputId) : State.reset.outputs[o] =
    { owner := none, drive := .low, safe := .low, pulse := none, binding := none } := by
  simp [State.reset]

theorem reset_subscription (h : HostId) : State.reset.subscriptions[h] =
    { rise := 0, fall := 0, session := false, time := false } := by simp [State.reset]

theorem reset_session (h : HostId) : State.reset.sessions[h] =
    { state := .detached, privilege := .ordinary, period := 0, timer := none, number := 0,
      notice := true, loss := .noLoss } := by simp [State.reset]

theorem reset_attention (h : HostId) : State.reset.attention[h] =
    { posted := 0, enabled := 0, asserted := true } := by simp [State.reset]

theorem reset_port (h : HostId) : State.reset.ports[h] =
    { selectLow := false, receiver := .deselected, sdo := none, stored := none, discarded := 0,
      frameErrors := 0 } := by simp [State.reset]

/-- After reset no slot, no entry and no fold reference is in use. -/
theorem reset_cleared : Cleared State.reset State.reset where
  slots i := by simp [State.reset]
  entries h := by rw [reset_queue]
  refs l k := by rw [reset_line]; cases k <;> rfl
  ports _ := rfl

/-- Settles O49: the laws of the pool hold of a cleared state, every other law of the one value that the
items of its block have after reset. -/
theorem everyLawHoldsAtReset : Obligations.EveryLawHoldsAtReset := by
  obtain ⟨holder, queue⟩ := reset_cleared.poolLaw
  refine ⟨holder, queue, reset_cleared.foldLaw, fun l => ?line, fun w => ?watch, fun w => ?count,
    fun o => ?output, fun h detached => ?session, fun h => ?notice, fun h => ?attention, fun h => ?port,
    reset_cleared.recordLaw⟩
  case line => rw [reset_line]; decide
  case watch => rw [reset_watch]; exact fun used => absurd rfl used
  case count => rw [reset_watch]; decide
  case output => rw [reset_output]; exact ⟨fun _ => ⟨rfl, rfl, rfl⟩, nofun⟩
  case session =>
    refine ⟨by rw [reset_queue], by rw [reset_queue]; rfl, reset_subscription h, fun o => ?_, fun l => ?_,
      fun w => ?_⟩
    · rw [reset_output]; nofun
    · rw [reset_line]; nofun
    · rw [reset_watch]; nofun
  case notice => rw [reset_session, reset_attention]; decide
  case attention => rw [reset_session, reset_attention]; decide
  case port => rw [reset_port]; decide

end Sys2Proof.Machine
end

section
/-!
CLAIM. What the pool makes of an offer, and the record part of a reported edge (O31, O38).
-/

namespace Sys2Proof.Machine

variable {s t : State}

/-! ### What the pool makes of an offer (R13 to R16, R18) -/

theorem freeSlot?_eq_none (used : ∀ i : SlotId, s.slots[i] ≠ none) : s.freeSlot? = none := by
  simp only [State.freeSlot?, List.find?_eq_none]
  intro i _
  simpa using used i

/-- The slot an offer takes is the lowest FREE one (R1, R16). -/
theorem freeSlot?_eq_some {i : SlotId} (free : s.slots[i] = none)
    (lowest : ∀ j : SlotId, j < i → s.slots[j] ≠ none) : s.freeSlot? = some i := by
  simp only [State.freeSlot?, List.find?_eq_some_iff_getElem]
  refine ⟨by rw [free]; rfl, i.val, by simp, by simp, fun j lower => ?_⟩
  have used := lowest ⟨j, by omega⟩ lower
  simpa [Option.isSome_iff_ne_none] using used

/-- A posting at an ATTACHED host (R162, R164). -/
theorem post_attached {a : Attention} {x : Session} {c : CauseSet} (attached : x.state = .attached)
    (some_cause : c ≠ 0#5) : a.post x c = postedAttention a c := by
  have condition : ∀ b : Attention, attentionCondition x b = decide (b.posted &&& b.enabled ≠ 0#5) := by
    intro b
    rw [attentionCondition, if_pos attached, Bool.eq_iff_iff, bne_iff_ne, decide_eq_true_iff]
  rw [Attention.post, if_neg some_cause, if_pos attached, Attention.evaluate, condition]
  rfl

theorem joinCauses_ne_zero (x : Queue) : joinCauses x ≠ 0#5 := by
  unfold joinCauses
  split <;> decide

/-- The hosts an offer is routed to are ATTACHED (R13). -/
theorem routing_attached {o : Offer} {h : HostId} (routed : holds (s.routing o) h = true) :
    s.sessions[h].state = .attached := by
  rw [State.routing, holds_and, Bool.and_eq_true, State.attachedSet, holds_setOf] at routed
  simpa [State.isAttached] using routed.2

theorem holds_fullQueues (s : State) (hosts : HostSet) (h : HostId) :
    holds (s.fullQueues hosts) h = true ↔
      holds hosts h = true ∧ 32 ≤ s.queues[h].entries.length := by
  rw [State.fullQueues, holds_setOf, Bool.and_eq_true, Queue.isFull, decide_eq_true_iff]

/-- A miss charged to a host of the set (R15, R39). -/
theorem chargeMisses_member {hosts : HostSet} {h : HostId} (member : holds hosts h = true)
    (attached : s.sessions[h].state = .attached) :
    (s.chargeMisses hosts).queues[h] = missedQueue s.queues[h] ∧
    (s.chargeMisses hosts).attention[h] = postedAttention s.attention[h] 0x04#5 := by
  simp only [State.chargeMisses, Fin.getElem_fin, Vector.getElem_ofFn, Fin.eta, member, if_true]
  exact ⟨rfl, post_attached attached (by decide)⟩

/-- A host outside the set keeps its queue and its causes. -/
theorem chargeMisses_other {hosts : HostSet} {h : HostId} (other : ¬ holds hosts h = true) :
    (s.chargeMisses hosts).queues[h] = s.queues[h] ∧
    (s.chargeMisses hosts).attention[h] = s.attention[h] := by
  simp only [State.chargeMisses, Fin.getElem_fin, Vector.getElem_ofFn, Fin.eta, other]
  exact ⟨rfl, rfl⟩

/-- An entry joins at a recipient (R16, R38). -/
theorem joinQueues_member {hosts : HostSet} {h : HostId} (i : SlotId) (member : holds hosts h = true)
    (attached : s.sessions[h].state = .attached) :
    (s.joinQueues hosts i).queues[h] = joinedQueue s.queues[h] i ∧
    (s.joinQueues hosts i).attention[h] = postedAttention s.attention[h] (joinCauses s.queues[h]) := by
  simp only [State.joinQueues, Fin.getElem_fin, Vector.getElem_ofFn, Fin.eta, member, if_true]
  exact ⟨rfl, post_attached attached (joinCauses_ne_zero _)⟩

theorem joinQueues_other {hosts : HostSet} {h : HostId} (i : SlotId) (other : ¬ holds hosts h = true) :
    (s.joinQueues hosts i).queues[h] = s.queues[h] ∧
    (s.joinQueues hosts i).attention[h] = s.attention[h] := by
  simp only [State.joinQueues, Fin.getElem_fin, Vector.getElem_ofFn, Fin.eta, other]
  exact ⟨rfl, rfl⟩

/-- Misses charged to a set of ATTACHED hosts, host by host (R15, R39). -/
theorem chargeMisses_hosts {hosts : HostSet}
    (attached : ∀ g : HostId, holds hosts g = true → s.sessions[g].state = .attached) (h : HostId) :
    if holds hosts h then
      (s.chargeMisses hosts).queues[h] = missedQueue s.queues[h] ∧
      (s.chargeMisses hosts).attention[h] = postedAttention s.attention[h] 0x04#5
    else
      (s.chargeMisses hosts).queues[h] = s.queues[h] ∧
      (s.chargeMisses hosts).attention[h] = s.attention[h] := by
  split
  · rename_i member
    exact chargeMisses_member member (attached h member)
  · rename_i other
    exact chargeMisses_other other

/-- A record created for some ATTACHED hosts after misses charged to others, host by host (R16). -/
theorem create_hosts (o : Offer) (i : SlotId) {recipients lost : HostSet}
    (attached : ∀ g : HostId, holds recipients g = true ∨ holds lost g = true →
      s.sessions[g].state = .attached)
    (apart : ∀ g : HostId, holds recipients g = true → ¬ holds lost g = true) (h : HostId) :
    if holds recipients h then
      ((s.chargeMisses lost).create o i recipients).queues[h] = joinedQueue s.queues[h] i ∧
      ((s.chargeMisses lost).create o i recipients).attention[h] =
        postedAttention s.attention[h] (joinCauses s.queues[h])
    else if holds lost h then
      ((s.chargeMisses lost).create o i recipients).queues[h] = missedQueue s.queues[h] ∧
      ((s.chargeMisses lost).create o i recipients).attention[h] =
        postedAttention s.attention[h] 0x04#5
    else
      ((s.chargeMisses lost).create o i recipients).queues[h] = s.queues[h] ∧
      ((s.chargeMisses lost).create o i recipients).attention[h] = s.attention[h] := by
  split
  · rename_i recipient
    obtain ⟨queue, causes⟩ := chargeMisses_other (s := s) (apart h recipient)
    have joined := joinQueues_member (s := s.chargeMisses lost) i recipient (attached h (.inl recipient))
    rw [queue, causes] at joined
    exact joined
  · rename_i other
    obtain ⟨queue, causes⟩ := joinQueues_other (s := s.chargeMisses lost) i other
    have charged := chargeMisses_hosts (fun g member => attached g (.inr member)) h
    split
    · rename_i member
      rw [if_pos member] at charged
      exact ⟨queue.trans charged.1, causes.trans charged.2⟩
    · rename_i outside
      rw [if_neg outside] at charged
      exact ⟨queue.trans charged.1, causes.trans charged.2⟩

/-- The recipients of an offer are the routed hosts whose queues have room (R16). -/
theorem holds_recipients (s : State) (hosts : HostSet) (h : HostId) :
    holds (hosts &&& ~~~s.fullQueues hosts) h = true ↔
      holds hosts h = true ∧ ¬ 32 ≤ s.queues[h].entries.length := by
  rw [holds_and, holds_not, Bool.and_eq_true, Bool.not_eq_true', ← Bool.not_eq_true, holds_fullQueues]
  tauto

/-- Every host of a set has a full queue exactly when none of them is left as a recipient. -/
theorem recipients_empty_iff (s : State) (hosts : HostSet) :
    hosts &&& ~~~s.fullQueues hosts = 0#4 ↔
      ∀ h : HostId, holds hosts h = true → 32 ≤ s.queues[h].entries.length := by
  rw [set_eq_zero]
  refine forall_congr' fun h => ?_
  rw [← Bool.not_eq_true, holds_recipients, not_and, not_not]

/-- Settles O31, case by case: no slot FREE, every routed queue full, or a record created. -/
theorem poolTakesAnOffer : Obligations.PoolTakesAnOffer := by
  intro s o
  refine ⟨fun unrouted => ?_, fun routed full note => ?_, fun routed full other => ?_,
    fun i routed free lowest => ?_⟩
  · simp only [State.offer, unrouted, if_true]
  · simp only [State.offer, routed, freeSlot?_eq_none full, note, if_true, if_false]
  · refine ⟨{ s.chargeMisses (s.routing o) with exhaustion := saturate s.exhaustion }, ?_, rfl,
      chargeMisses_hosts fun _ => routing_attached⟩
    simp only [State.offer, routed, freeSlot?_eq_none full, other, if_false]
  · have taken := freeSlot?_eq_some free lowest
    split
    · rename_i allFull
      have missed : s.fullQueues (s.routing o) = s.routing o := set_ext fun h => by
        rw [Bool.eq_iff_iff, holds_fullQueues]
        exact ⟨fun x => x.1, fun x => ⟨x, allFull h x⟩⟩
      refine ⟨s.chargeMisses (s.routing o), ?_, rfl, chargeMisses_hosts fun _ => routing_attached⟩
      have empty := (recipients_empty_iff s (s.routing o)).mpr allFull
      rw [missed] at empty
      simp only [State.offer, routed, taken, empty, missed, if_true, if_false]
    · rename_i someRoom
      have nonempty := mt (recipients_empty_iff s (s.routing o)).mp someRoom
      have recipient := holds_recipients s (s.routing o)
      have lost := holds_fullQueues s (s.routing o)
      refine ⟨(s.chargeMisses (s.fullQueues (s.routing o))).create o i
        (s.routing o &&& ~~~s.fullQueues (s.routing o)), _, _, ?_, fun h => ⟨recipient h, lost h⟩, rfl,
        create_hosts o i (fun h member => routing_attached (o := o) ?_) fun h member => ?_⟩
      · simp only [State.offer, routed, taken, nonempty, if_false]
      · exact member.elim (fun x => ((recipient h).mp x).1) fun x => ((lost h).mp x).1
      · exact fun x => ((recipient h).mp member).2 ((lost h).mp x).2

/-! ### The record part of a report (R17, R20, R70, R71) -/

/-- Under EACH the edge is offered (R70). -/
theorem recordEdge_each {l : LineId} (each : s.lines[l].policy = .each) (k : EdgeKind) (t0 : HubTime)
    (snapshot : LineSet) :
    s.recordEdge l k t0 snapshot = (s.offer (edgeOffer l k t0 snapshot)).1 := by
  rcases recordEdge_cases s l k t0 snapshot with ⟨_, e⟩ | ⟨_, _, _, other, _⟩ | ⟨_, other, _⟩
  · exact e
  · exact absurd each other
  · exact absurd each other

/-- An edge offered with no fold reference of its kind: a record created becomes the fold target
(R17, R71). -/
theorem recordEdge_created {l : LineId} {k : EdgeKind} {t0 : HubTime} {snapshot : LineSet} {o : Offer}
    {i : SlotId} {recipients missed : HostSet} (edge : o = edgeOffer l k t0 snapshot)
    (other : s.lines[l].policy ≠ .each) (absent : s.lines[l].foldRef k = none)
    (result : (s.offer o).2 = .created i recipients missed) :
    ∃ r, (s.offer o).1.slots[i] = some r ∧
      s.recordEdge l k t0 snapshot = { (s.offer o).1 with
        slots := (s.offer o).1.slots.set i.val (some { r with foldTarget := some (l, k) })
        lines := (s.offer o).1.lines.set l.val ((s.offer o).1.lines[l].setFoldRef k (some i)) } := by
  subst edge
  have used := ((created_of_result result).slots i).trans (if_pos rfl)
  refine ⟨_, used, ?_⟩
  rcases recordEdge_cases s l k t0 snapshot with ⟨each | ⟨_, none'⟩, _⟩ | ⟨_, _, _, _, _, result', e⟩ |
    ⟨_, _, present, _⟩
  · exact absurd each other
  · exact absurd result (none' _ _ _)
  · rw [result] at result'
    cases result'
    rw [e]
    exact setFoldTarget_used used l k
  · rw [absent] at present
    cases present

/-- An edge offered with no fold reference of its kind, and no record created (R71). -/
theorem recordEdge_uncreated {l : LineId} {k : EdgeKind} {t0 : HubTime} {snapshot : LineSet}
    (absent : s.lines[l].foldRef k = none)
    (result : ∀ i recipients missed,
      (s.offer (edgeOffer l k t0 snapshot)).2 ≠ .created i recipients missed) :
    s.recordEdge l k t0 snapshot = (s.offer (edgeOffer l k t0 snapshot)).1 := by
  rcases recordEdge_cases s l k t0 snapshot with ⟨_, e⟩ | ⟨_, _, _, _, _, created, _⟩ | ⟨_, _, present, _⟩
  · exact e
  · exact absurd created (result _ _ _)
  · rw [absent] at present
    cases present

/-- An edge folded into the record of its line and kind (R20, R71). -/
theorem recordEdge_folded {l : LineId} {k : EdgeKind} {i : SlotId} {r : Record} {kept : LineSet}
    {count : Option Half} (other : s.lines[l].policy ≠ .each) (present : s.lines[l].foldRef k = some i)
    (used : s.slots[i] = some r) (line : r.detail = .line kept count) (t0 : HubTime)
    (snapshot : LineSet) :
    s.recordEdge l k t0 snapshot = { s with
      slots := s.slots.set i.val (some (
        if s.lines[l].policy = .latest then
          { r with timestamp := t0, detail := .line snapshot (some (nextFoldCount count)) }
        else { r with detail := .line kept (some (nextFoldCount count)) })) } := by
  rcases recordEdge_cases s l k t0 snapshot with ⟨each | ⟨absent, _⟩, _⟩ | ⟨_, _, _, _, absent, _⟩ |
    ⟨j, _, ref, e⟩
  · exact absurd each other
  · rw [absent] at present; cases present
  · rw [absent] at present; cases present
  · rw [present] at ref
    cases ref
    rw [e, State.foldRecord, used]
    dsimp only
    rw [fold_line line]
    rfl

/-- Settles O38, by the policy, the fold reference and the offer's result. -/
theorem edgesAreOfferedOrFolded : Obligations.EdgesAreOfferedOrFolded := by
  intro s l k t0 snapshot _
  have folded := @recordEdge_folded s l k
  cases k
  all_goals
    refine ⟨fun each => recordEdge_each each .., fun other absent => ?_, ?_⟩
    · split
      · rename_i result
        exact recordEdge_created rfl other absent result
      · rename_i uncreated
        exact recordEdge_uncreated absent uncreated
    · intro other i r kept count present used line
      cases count <;> exact folded other present used line t0 snapshot

end Sys2Proof.Machine
end

section
/-!
CLAIM. LINE_CONFIGURE, with the fields of its payload (O32).
-/

namespace Sys2Proof.Machine

variable {s t : State}

/-! ### Fields of a payload (R188) -/

theorem numbered_numberByte {n : Nat} (i : Fin n) (fits : n ≤ 256) :
    numbered n (numberByte i.val) = some i := by
  have small : i.val % 256 = i.val := Nat.mod_eq_of_lt (by omega)
  simp [numbered, numberByte, small]

theorem numbered_eq_some {n : Nat} {b : Byte} {i : Fin n} (found : numbered n b = some i) :
    b = numberByte i.val := by
  unfold numbered at found
  split at found <;> cases found
  simp [numberByte]

theorem half_halfBytes (x : Half) : half (x.extractLsb' 8 8) (x.extractLsb' 0 8) = x :=
  BitVec.extractLsb'_append_extractLsb'

theorem halfBytes_half (hi lo : Byte) : halfBytes (half hi lo) = [hi, lo] := by
  have high : (half hi lo).extractLsb' 8 8 = hi := BitVec.extractLsb'_append_eq_left
  have low : (half hi lo).extractLsb' 0 8 = lo := BitVec.extractLsb'_append_eq_right
  rw [halfBytes, high, low]

theorem sense?_byte (x : Sense) : sense? x.byte = some x := by cases x <;> rfl

theorem sense?_eq_some {b : Byte} {x : Sense} (found : sense? b = some x) : b = x.byte := by
  unfold sense? at found
  split at found
  · cases found; assumption
  split at found
  · cases found; assumption
  split at found <;> cases found
  assumption

theorem policy?_byte (x : Policy) : policy? x.byte = some x := by cases x <;> rfl

theorem policy?_eq_some {b : Byte} {x : Policy} (found : policy? b = some x) : b = x.byte := by
  unfold policy? at found
  split at found
  · cases found; assumption
  split at found
  · cases found; assumption
  split at found <;> cases found
  assumption

theorem filterTime?_setWidth (x : BitVec 12) : filterTime? (x.setWidth 16) = some x := by
  have bound : (x.setWidth 16).toNat ≤ 4095 := by rw [BitVec.toNat_setWidth]; omega
  rw [filterTime?, if_pos bound]
  congr 1
  apply BitVec.eq_of_toNat_eq
  simp

theorem filterTime?_eq_some {f : Half} {x : BitVec 12} (found : filterTime? f = some x) :
    f = x.setWidth 16 := by
  unfold filterTime? at found
  split at found <;> cases found
  apply BitVec.eq_of_toNat_eq
  rw [BitVec.toNat_setWidth, BitVec.toNat_setWidth]
  omega

/-! ### LINE_CONFIGURE (R65) -/

/-- The payload of a LINE_CONFIGURE (R65). -/
def configurePayload (l : LineId) (sense : Sense) (filter : BitVec 12) (policy : Policy) : List Byte :=
  [numberByte l.val, sense.byte] ++ halfBytes (filter.setWidth 16) ++ [policy.byte]

/-- What LINE_CONFIGURE makes of a payload whose fields are in range. -/
theorem lineConfigure_fields {rq : Request} {l : LineId} {sense : Sense} {filter : BitVec 12}
    {policy : Policy} (attached : s.isAttached rq.host = true)
    (payload : rq.payload = configurePayload l sense filter policy) :
    lineConfigureReply rq s =
      if s.lines[l].ownedByOther rq.host && !s.isSupervisor rq.host then refuse s .notOwner
      else if s.lines[l].state = .armed ∨ s.lines[l].state = .disarming then refuse s .badState
      else
        ⟨(s.dropFoldRefs l).setLine l
          ((s.dropFoldRefs l).lines[l].configure rq.host sense filter policy), .ok, []⟩ := by
  rw [lineConfigureReply, ifAttached_attached attached, payload]
  simp only [configurePayload, halfBytes, List.cons_append, List.nil_append, half_halfBytes,
    numbered_numberByte l (by decide), sense?_byte, policy?_byte, filterTime?_setWidth]

/-- Every other payload is out of range. -/
theorem lineConfigure_badArg {rq : Request} (attached : s.isAttached rq.host = true)
    (other : ∀ l sense filter policy, rq.payload ≠ configurePayload l sense filter policy) :
    lineConfigureReply rq s = refuse s .badArg := by
  rw [lineConfigureReply, ifAttached_attached attached]
  split
  · rename_i line sense hi lo policy payload
    split
    · rename_i l x f p number senseByte filter policyByte
      refine absurd ?_ (other l x f p)
      rw [payload, configurePayload, ← filterTime?_eq_some filter, halfBytes_half,
        ← numbered_eq_some number, ← sense?_eq_some senseByte, ← policy?_eq_some policyByte]
      rfl
    · rfl
  · rfl

/-- A line owned by another host than the caller, who is no SUPERVISOR (R65). -/
theorem ownedByOther_ordinary_iff (s : State) (l : LineId) (h : HostId) :
    (s.lines[l].ownedByOther h && !s.isSupervisor h) = true ↔
      (∃ g : HostId, s.lines[l].owner = some g ∧ g ≠ h) ∧ s.sessions[h].privilege = .ordinary := by
  rw [Bool.and_eq_true]
  refine and_congr ?_ ?_
  · unfold Line.ownedByOther
    cases s.lines[l].owner <;> simp
  · unfold State.isSupervisor
    cases s.sessions[h].privilege <;> decide

/-- The state a LINE_CONFIGURE leaves (R65, R72). -/
theorem lineConfigure_state (law : s.FoldLaw) (l : LineId) (h : HostId) (sense : Sense)
    (filter : BitVec 12) (policy : Policy) :
    let u := (s.dropFoldRefs l).setLine l ((s.dropFoldRefs l).lines[l].configure h sense filter policy)
    u = { s with
      slots := u.slots
      lines := s.lines.set l { s.lines[l] with
        state := .disarmed, owner := some h, sense := sense, filter := filter, policy := policy
        foldRise := none, foldFall := none } } ∧
    ∀ i : SlotId, u.slots[i] = s.slots[i].map fun r =>
      { r with foldTarget := r.foldTarget.filter fun target => target.1 != l } := by
  obtain ⟨frame, lines, slots, _⟩ := dropFoldRefs_spec law [l]
  simp only [List.foldl_cons, List.foldl_nil, List.mem_singleton] at frame lines slots
  have set_eq : ∀ x, (s.dropFoldRefs l).lines.set l.val x = s.lines.set l.val x := by
    intro x
    refine Vector.ext fun m bound => ?_
    have kept := lines ⟨m, bound⟩
    by_cases e : l.val = m
    · simp [e]
    · rw [if_neg fun same => e (congrArg Fin.val same).symm] at kept
      rw [Vector.getElem_set_ne _ _ e, Vector.getElem_set_ne _ _ e]
      exact kept
  have line := lines l
  rw [if_pos rfl] at line
  refine ⟨?_, fun i => ?_⟩
  · dsimp only
    rw [State.setLine, set_eq, line]
    conv_lhs => rw [frame]
    rfl
  · exact slots i

/-- The payload as the statement spells it. -/
theorem configurePayload_spelled (l : LineId) (sense : Sense) (filter : BitVec 12) (policy : Policy) :
    configurePayload l sense filter policy =
      [numberByte l.val, match sense with | .rise => 1#8 | .fall => 2#8 | .both => 3#8]
        ++ halfBytes (filter.setWidth 16)
        ++ [match policy with | .each => 0#8 | .first => 1#8 | .latest => 2#8] := by
  cases sense <;> cases policy <;> rfl

/-- Settles O32, from the reply to a payload in range and to every other. -/
theorem lineConfigureMakesTheCallerOwner : Obligations.LineConfigureMakesTheCallerOwner := by
  intro h tag payload s awaits attached law
  have answers := request_answers (i := .lineConfigure h tag payload)
    (f := ⟨h, 0x30#8, tag, payload⟩) (command := lineConfigureReply) rfl rfl awaits
  dsimp only at answers
  have attached' : (s.restarted h).isAttached h = true := by rw [restarted_isAttached]; exact attached
  have law' : (s.restarted h).FoldLaw := (restarted_foldLaw s h).mpr law
  refine ⟨fun l sense filter policy fields => ?_, fun other => ?_⟩
  · have owned := ownedByOther_ordinary_iff s l h
    rw [lineConfigure_fields attached' (fields.trans (configurePayload_spelled ..).symm), restarted_lines,
      restarted_isSupervisor] at answers
    dsimp only at answers
    split
    · rename_i refused
      rw [if_pos (owned.mpr refused)] at answers
      exact answers
    rename_i allowed
    rw [if_neg fun x => allowed (owned.mp x)] at answers
    split
    · rename_i armed
      rw [if_pos armed] at answers
      exact answers
    · rename_i idle
      rw [if_neg idle] at answers
      obtain ⟨frame, slots⟩ := lineConfigure_state law' l h sense filter policy
      rw [restarted_lines] at frame
      rw [restarted_slots] at slots
      exact ⟨_, answers, frame, slots⟩
  · rw [lineConfigure_badArg attached' fun l sense filter policy encoded =>
      other l sense filter policy (encoded.trans (configurePayload_spelled ..))] at answers
    exact answers

end Sys2Proof.Machine
end

section
/-!
SUPPORT. Creation order: what the operations of the pool that free no record add to the queues, counted by
the slots they take (R16, R37).
-/

namespace Sys2Proof.Machine

variable {s t u : State} {n : Nat}

/-! ### Sequences, free slots and entries -/

/-- The sequence of the record in a slot, none where the slot is FREE. -/
def State.seqAt (s : State) (i : SlotId) : Option Half := s.slots[i].map Record.seq

/-- The FREE slots (R1). -/
def State.freeSlots (s : State) : Finset SlotId := Finset.univ.filter fun i => s.seqAt i = none

theorem mem_freeSlots {i : SlotId} : i ∈ s.freeSlots ↔ s.seqAt i = none := by
  simp [State.freeSlots]

theorem freeSlots_card_le (s : State) : s.freeSlots.card ≤ 64 :=
  (Finset.card_le_univ _).trans_eq (Fintype.card_fin 64)

/-- Two states with the same sequences, counter and entries. -/
structure SameOrder (s t : State) : Prop where
  seqAt : ∀ i : SlotId, t.seqAt i = s.seqAt i
  nextSeq : t.nextSeq = s.nextSeq
  entries : ∀ h : HostId, t.queues[h].entries = s.queues[h].entries

theorem Quiet.sameOrder (same : Quiet s t) : SameOrder s t where
  seqAt i := by rw [State.seqAt, same.slots, State.seqAt]
  nextSeq := same.nextSeq
  entries := same.entries

/-- A change of some slots' records that keeps their sequences. -/
theorem SameOrder.of_map {change : Record → Record} {p : SlotId → Prop} [DecidablePred p]
    (slots : ∀ j : SlotId, t.slots[j] = if p j then s.slots[j].map change else s.slots[j])
    (kept : ∀ r, (change r).seq = r.seq) (nextSeq : t.nextSeq = s.nextSeq)
    (queues : t.queues = s.queues) : SameOrder s t where
  seqAt j := by rw [State.seqAt, slots, slot_map_kept kept, State.seqAt]
  nextSeq := nextSeq
  entries h := by rw [queues]

theorem setFoldTarget_sameOrder (s : State) (i : SlotId) (l : LineId) (k : EdgeKind) :
    SameOrder s (s.setFoldTarget i l k) :=
  .of_map (setFoldTarget_slot s i l k) (fun _ => rfl) (by rw [setFoldTarget_frame])
    (by rw [setFoldTarget_frame])

theorem foldRecord_sameOrder (s : State) (i : SlotId) (policy : Policy) (t0 : HubTime)
    (snapshot : LineSet) : SameOrder s (s.foldRecord i policy t0 snapshot) := by
  refine .of_map (foldRecord_slot s i policy t0 snapshot) (fun r => ?_) (by rw [foldRecord_frame])
    (by rw [foldRecord_frame])
  obtain ⟨_, _, folded, _⟩ := fold_keeps r policy t0 snapshot
  rw [folded]

theorem showRecord_sameOrder (s : State) (i : SlotId) : SameOrder s (s.showRecord i) := by
  have slots := showRecord_slot s i
  simp only [shownSlot_eq_map] at slots
  exact .of_map slots (fun _ => rfl) (by rw [showRecord_frame]) (by rw [showRecord_frame])

theorem dropFoldRef_sameOrder (s : State) (l : LineId) (k : EdgeKind) :
    SameOrder s (s.dropFoldRef l k) :=
  .of_map (dropFoldRef_slot s l k) (fun _ => rfl) (by rw [dropFoldRef_frame]) (by rw [dropFoldRef_frame])

/-- An operation of the pool that frees no record creates at most one, and keeps every other thing that
the order of creation reads. -/
theorem PoolChange.sameOrder_or_created (change : PoolChange s t) :
    SameOrder s t ∨
    ∃ (o : Offer) (i : SlotId) (recipients : HostSet) (u : State),
      Created s o i recipients u ∧ SameOrder u t := by
  have offered : ∀ o : Offer, SameOrder s (s.offer o).1 ∨
      ∃ (o' : Offer) (i : SlotId) (recipients : HostSet) (u : State),
        Created s o' i recipients u ∧ SameOrder u (s.offer o).1 := by
    intro o
    rcases offer_quiet_or_created s o with ⟨_, same⟩ | ⟨i, recipients, _, _, created⟩
    · exact .inl same.sameOrder
    · exact .inr ⟨o, i, recipients, _, created, Quiet.refl.sameOrder⟩
  cases change with
  | quiet same => exact .inl same.sameOrder
  | offer o _ => exact offered o
  | edge l k t0 snapshot =>
    rcases recordEdge_cases s l k t0 snapshot with ⟨_, e⟩ | ⟨i, recipients, _, _, _, result, e⟩ |
      ⟨i, _, _, e⟩ <;> rw [e]
    · exact offered _
    · exact .inr ⟨_, i, recipients, _, created_of_result result, setFoldTarget_sameOrder ..⟩
    · exact .inl (foldRecord_sameOrder ..)
  | showing i => exact .inl (showRecord_sameOrder s i)
  | dropping l k => exact .inl (dropFoldRef_sameOrder s l k)

/-! ### Growth -/

/-- The entries' records took their sequences from `base` on, less than `n` in all, in the order in which
the entries stand. -/
structure InOrder (base : Half) (n : Nat) (t : State) (entries : List Entry) : Prop where
  fresh : ∀ e ∈ entries, ∃ q, t.seqAt e.slot = some q ∧ (q - base).toNat < n
  ordered : entries.Pairwise fun e e' => ∀ q ∈ t.seqAt e.slot, ∀ q' ∈ t.seqAt e'.slot,
    (q - base).toNat < (q' - base).toNat

/-- From `s` to `t`, `n` FREE slots have taken records, no record has been freed, and the entries of those
records have joined the queues' tails in the order of creation. -/
structure Grows (s : State) (n : Nat) (t : State) : Prop where
  taken : n + t.freeSlots.card = s.freeSlots.card
  nextSeq : t.nextSeq = s.nextSeq + BitVec.ofNat 16 n
  kept : ∀ (i : SlotId) (q : Half), s.seqAt i = some q → t.seqAt i = some q
  entries : ∀ h : HostId, ∃ joined, t.queues[h].entries = s.queues[h].entries ++ joined ∧
    InOrder s.nextSeq n t joined

theorem InOrder.nil (base : Half) (n : Nat) (t : State) : InOrder base n t [] := ⟨nofun, .nil⟩

/-- The order depends on the sequences alone. -/
theorem InOrder.congr {base : Half} {n m : Nat} {entries : List Entry} (order : InOrder base n s entries)
    (more : n ≤ m) (same : ∀ e ∈ entries, t.seqAt e.slot = s.seqAt e.slot) :
    InOrder base m t entries where
  fresh e member := by
    obtain ⟨q, found, age⟩ := order.fresh e member
    exact ⟨q, (same e member).trans found, age.trans_le more⟩
  ordered := order.ordered.imp_of_mem fun member member' earlier => by
    rw [same _ member, same _ member']
    exact earlier

theorem Grows.refl : Grows s 0 s :=
  ⟨Nat.zero_add _, (BitVec.add_zero _).symm, fun _ _ => id, fun _ => ⟨[], by simp, .nil ..⟩⟩

theorem Grows.le (grows : Grows s n t) : n ≤ 64 := by
  have := freeSlots_card_le s
  have := grows.taken
  omega

theorem Grows.then_same (grows : Grows s n t) (same : SameOrder t u) : Grows s n u where
  taken := by
    have : u.freeSlots = t.freeSlots := Finset.ext fun i => by rw [mem_freeSlots, mem_freeSlots, same.seqAt]
    rw [this]
    exact grows.taken
  nextSeq := same.nextSeq.trans grows.nextSeq
  kept i q used := (same.seqAt i).trans (grows.kept i q used)
  entries h := by
    obtain ⟨joined, entries, order⟩ := grows.entries h
    exact ⟨joined, (same.entries h).trans entries, order.congr le_rfl fun e _ => same.seqAt e.slot⟩

/-- The newest entry stands behind those whose records are older. -/
theorem InOrder.concat {base : Half} {n : Nat} {entries : List Entry} {e : Entry}
    (order : InOrder base n t entries) (bound : n ≤ 64)
    (newest : t.seqAt e.slot = some (base + BitVec.ofNat 16 n)) :
    InOrder base (n + 1) t (entries ++ [e]) := by
  have age : (base + BitVec.ofNat 16 n - base).toNat = n := by bv_omega
  refine ⟨fun x member => ?_, List.pairwise_append.mpr ⟨order.ordered, by simp, fun x member y last => ?_⟩⟩
  · rcases List.mem_append.mp member with old | last
    · obtain ⟨q, found, age⟩ := order.fresh x old
      exact ⟨q, found, by omega⟩
    · obtain rfl := List.mem_singleton.mp last
      exact ⟨_, newest, by omega⟩
  · obtain rfl := List.mem_singleton.mp last
    obtain ⟨q, found, older⟩ := order.fresh x member
    rw [found, newest]
    rintro _ ⟨⟩ _ ⟨⟩
    omega

/-- One more record created after a growth. -/
theorem Grows.then_created {o : Offer} {i : SlotId} {recipients : HostSet} (grows : Grows s n t)
    (created : Created t o i recipients u) : Grows s (n + 1) u := by
  have seqAt : ∀ j, u.seqAt j = if j = i then some t.nextSeq else t.seqAt j := by
    intro j
    rw [State.seqAt, created.slots]
    split <;> rfl
  have free : i ∈ t.freeSlots := mem_freeSlots.mpr (by rw [State.seqAt, created.free]; rfl)
  have used : ∀ j q, t.seqAt j = some q → u.seqAt j = some q := by
    intro j q found
    rw [seqAt, if_neg, found]
    rintro rfl
    rw [mem_freeSlots.mp free] at found
    cases found
  refine ⟨?_, ?_, fun j q found => used j q (grows.kept j q found), fun h => ?_⟩
  · have left : u.freeSlots = t.freeSlots.erase i := Finset.ext fun j => by
      rw [Finset.mem_erase, mem_freeSlots, mem_freeSlots, seqAt]
      split <;> simp_all
    have := Finset.card_erase_add_one free
    have := grows.taken
    rw [left]
    omega
  · rw [created.nextSeq, grows.nextSeq, BitVec.add_assoc, ← BitVec.ofNat_add]
  · obtain ⟨joined, entries, order⟩ := grows.entries h
    have old : InOrder s.nextSeq n u joined := order.congr le_rfl fun e member => by
      obtain ⟨q, found, _⟩ := order.fresh e member
      rw [found, used _ q found]
    rw [created.entries, entries]
    split
    · refine ⟨joined ++ [_], List.append_assoc .., old.concat grows.le ?_⟩
      rw [seqAt, if_pos rfl, grows.nextSeq]
    · exact ⟨joined, rfl, old.congr (Nat.le_succ n) fun _ _ => rfl⟩

/-- Operations of the pool that free no record grow the queues. -/
theorem PoolChanges.grows (path : PoolChanges s t) : ∃ n, Grows s n t := by
  induction path with
  | refl => exact ⟨0, .refl⟩
  | tail _ change ih =>
    obtain ⟨n, grows⟩ := ih
    rcases change.sameOrder_or_created with same | ⟨_, _, _, _, created, same⟩
    · exact ⟨n, grows.then_same same⟩
    · exact ⟨n + 1, (grows.then_created created).then_same same⟩

/-! ### What a command takes from the queues before they grow -/

/-- Every queue has lost some entries at its head and nothing else, and the counter stands. -/
structure Trimmed (s t : State) : Prop where
  nextSeq : t.nextSeq = s.nextSeq
  entries : ∀ h : HostId, ∃ n, t.queues[h].entries = s.queues[h].entries.drop n

theorem Trimmed.refl : Trimmed s s := ⟨rfl, fun _ => ⟨0, rfl⟩⟩

theorem Trimmed.trans (a : Trimmed s t) (b : Trimmed t u) : Trimmed s u where
  nextSeq := b.nextSeq.trans a.nextSeq
  entries h := by
    obtain ⟨n, first⟩ := a.entries h
    obtain ⟨m, second⟩ := b.entries h
    exact ⟨n + m, by rw [second, first, List.drop_drop]⟩

theorem Quiet.trimmed (same : Quiet s t) : Trimmed s t :=
  ⟨same.nextSeq, fun h => ⟨0, same.entries h⟩⟩

theorem removeHead_trimmed (s : State) (h : HostId) : Trimmed s (s.removeHead h) where
  nextSeq := by rw [removeHead_frame]
  entries g := by
    rw [removeHead_entries]
    split
    · exact ⟨1, List.drop_one.symm⟩
    · exact ⟨0, rfl⟩

theorem removeOldest_trimmed (s : State) (h : HostId) (n : Nat) : Trimmed s (s.removeOldest h n) := by
  induction n generalizing s with
  | zero => exact .refl
  | succ n ih => exact (removeHead_trimmed s h).trans (ih _)

/-- An effect trims the queues, and then grows them; or it clears everything. -/
theorem Effect.trims_then_grows (effect : Effect s t) :
    Cleared s t ∨ ∃ u n, Trimmed s u ∧ Grows u n t := by
  cases effect with
  | changes path =>
    obtain ⟨n, grows⟩ := path.grows
    exact .inr ⟨s, n, .refl, grows⟩
  | acknowledgement h n before after =>
    exact .inr ⟨t, 0, (before.trimmed.trans (removeOldest_trimmed _ h n)).trans after.trimmed, .refl⟩
  | sessionEnd h n o before removed formed kind after =>
    obtain ⟨m, grows⟩ := PoolChanges.grows (.tail (.single (.offer _ o formed)) (.quiet after))
    exact .inr ⟨_, m, (before.trimmed.trans (removeOldest_trimmed _ h n)).trans removed.trimmed, grows⟩
  | reset cleared => exact .inl cleared

end Sys2Proof.Machine
end

section
/-!
SUPPORT. How far one command moves the next-sequence counter: eight offers of a seizure, eight reflex offers
and the line's own, or one offer of any other command (R4, R16, R127, R130).
-/

namespace Sys2Proof.Machine

variable {s t u : State} {n m : Nat}

/-- The next-sequence counter has moved by at most `n`. -/
def Advances (n : Nat) (s t : State) : Prop := ∃ k ≤ n, t.nextSeq = s.nextSeq + BitVec.ofNat 16 k

theorem Advances.of_eq (same : t.nextSeq = s.nextSeq) : Advances n s t :=
  ⟨0, Nat.zero_le n, same.trans (BitVec.add_zero _).symm⟩

theorem Advances.refl : Advances n s s := .of_eq rfl

theorem Advances.mono (moved : Advances n s t) (more : n ≤ m) : Advances m s t := by
  obtain ⟨k, bound, seq⟩ := moved
  exact ⟨k, bound.trans more, seq⟩

theorem Advances.trans (a : Advances n s t) (b : Advances m t u) : Advances (n + m) s u := by
  obtain ⟨j, boundj, seqj⟩ := a
  obtain ⟨k, boundk, seqk⟩ := b
  exact ⟨j + k, by omega, by rw [seqk, seqj, BitVec.add_assoc, ← BitVec.ofNat_add]⟩

/-! ### Operations -/

theorem offer_advances (s : State) (o : Offer) : Advances 1 s (s.offer o).1 := by
  rcases offer_quiet_or_created s o with ⟨_, same⟩ | ⟨_, _, _, _, created⟩
  · exact .of_eq same.nextSeq
  · exact ⟨1, le_rfl, created.nextSeq⟩

/-- An offer after changes that leave the counter. -/
theorem Advances.of_offer {o : Offer} (same : u.nextSeq = s.nextSeq) : Advances (n + 1) s (u.offer o).1 :=
  (Advances.trans (n := 0) (.of_eq same) (offer_advances u o)).mono (by omega)

theorem takeOffers_advances (s : State) (offers : List Offer) :
    Advances offers.length s (s.takeOffers offers) := by
  unfold State.takeOffers
  induction offers generalizing s with
  | nil => exact .refl
  | cons o os ih => exact ((offer_advances s o).trans (ih _)).mono (Nat.add_comm ..).le

theorem recordEdge_advances (s : State) (l : LineId) (k : EdgeKind) (t0 : HubTime)
    (snapshot : LineSet) : Advances 1 s (s.recordEdge l k t0 snapshot) := by
  rcases recordEdge_cases s l k t0 snapshot with ⟨_, e⟩ | ⟨_, _, _, _, _, _, e⟩ | ⟨_, _, _, e⟩ <;> rw [e]
  · exact offer_advances ..
  · exact (offer_advances ..).trans (m := 0) (.of_eq (setFoldTarget_sameOrder ..).nextSeq)
  · exact .of_eq (foldRecord_sameOrder ..).nextSeq

/-- At most one reflex offer of each output (R127). -/
theorem reflexOffers_length_le (s : State) (l : LineId) (k : EdgeKind) (t0 : HubTime) :
    (s.reflexOffers l k t0).length ≤ 8 := by
  rw [State.reflexOffers, List.length_map]
  exact (List.length_filter_le ..).trans_eq (List.length_finRange ..)

theorem reportEdge_advances (s : State) (l : LineId) (k : EdgeKind) (t0 : HubTime)
    (snapshot : LineSet) : Advances 9 s (s.reportEdge l k t0 snapshot) := by
  have bound := reflexOffers_length_le (s.fireReflexes l k) l k t0
  have fired : Advances 0 s (s.fireReflexes l k) := .of_eq rfl
  unfold State.reportEdge
  dsimp only
  split
  · exact (fired.trans (recordEdge_advances ..)).mono (by omega)
  · rename_i o os offers
    rw [offers] at bound
    have drawn : Advances 0 s { s.fireReflexes l k with draws := (s.fireReflexes l k).draws + 1 } :=
      .of_eq rfl
    refine (((drawn.trans (takeOffers_advances ..)).trans (recordEdge_advances ..)).trans
      (takeOffers_advances ..)).mono ?_
    rw [List.length_take, List.length_drop]
    omega

theorem qualifyEdge_advances (s : State) (l : LineId) (t0 : HubTime) :
    Advances 9 s (s.qualifyEdge l t0) := by
  have flipped : Advances 0 s (s.setLine l (s.lines[l].qualify t0)) := .of_eq rfl
  unfold State.qualifyEdge
  dsimp only
  refine Advances.trans (m := 0) ?_ (.of_eq rfl)
  split
  · exact (flipped.trans (reportEdge_advances ..)).mono le_rfl
  · exact flipped.mono (Nat.zero_le 9)

theorem teardown_nextSeq (s : State) (h : HostId) : (s.teardown h).nextSeq = s.nextSeq :=
  (Quiet.of_teardown s h).nextSeq.trans (removeOldest_nextSeq ..)

theorem endSession_advances (s : State) (h : HostId) (c : EndCause) :
    Advances (n + 1) s (s.endSession h c) := .of_offer (teardown_nextSeq ..)

/-- What keeps the counter at each element of a list keeps it along the list. -/
theorem foldl_nextSeq {α : Type} {f : State → α → State} (kept : ∀ u x, (f u x).nextSeq = u.nextSeq)
    (xs : List α) (s : State) : (xs.foldl f s).nextSeq = s.nextSeq := by
  induction xs generalizing s with
  | nil => rfl
  | cons x xs ih => exact (ih _).trans (kept s x)

theorem dropFoldRefs_nextSeq (s : State) (l : LineId) : (s.dropFoldRefs l).nextSeq = s.nextSeq :=
  (dropFoldRef_sameOrder _ l .fall).nextSeq.trans (dropFoldRef_sameOrder s l .rise).nextSeq

/-! ### Requests -/

theorem outSeize_advances (rq : Request) (s : State) : Advances 9 s (outSeizeReply rq s).state := by
  refine ifAttached_state .refl ?_
  split
  · split
    · exact .refl
    split
    · exact .refl
    split
    · exact .refl
    · rename_i outs _ _ _ _
      have seized : Advances 1 s
          ((s.postSeized rq.host outs).mapOutputs outs fun _ o => o.seize rq.host) := .of_eq rfl
      have bound : (s.seizedOffers rq.host outs rq.takenAt).length ≤ 8 := by
        rw [State.seizedOffers, List.length_map, members]
        exact (List.length_filter_le ..).trans_eq (List.length_finRange ..)
      exact (seized.trans (takeOffers_advances ..)).mono (by omega)
  · exact .refl

theorem sendNote_advances (rq : Request) (s : State) : Advances 9 s (sendNoteReply rq s).state := by
  refine ifAttached_state .refl ?_
  split
  · exact .refl
  repeat' split
  all_goals try exact .refl
  dsimp only
  unfold noteReply
  split
  · exact .refl
  · exact .refl
  · exact .of_offer rfl
  · exact .of_offer rfl

/-- The requests that make one offer, or end one session. -/
theorem oneOffer_advances {command : Request → State → Reply}
    (listed : command ∈ [attachReply, detachReply, evictReply, adjustTimeReply])
    (rq : Request) (s : State) : Advances 9 s (command rq s).state := by
  simp only [List.mem_cons, List.not_mem_nil, or_false] at listed
  rcases listed with rfl | rfl | rfl | rfl
  · unfold attachReply
    repeat' split
    case h_1 => exact .of_offer rfl
    all_goals exact .refl
  · refine ifAttached_state .refl ?_
    split
    · exact .refl
    · exact endSession_advances ..
  · refine ifAttached_state .refl ?_
    repeat' split
    case h_2.isFalse.isFalse.isFalse.isFalse => exact endSession_advances ..
    all_goals exact .refl
  · refine ifAttached_state .refl ?_
    dsimp only
    repeat' split
    case h_1.isFalse.isFalse => exact .of_offer rfl
    all_goals exact .refl

/-- The requests that change the pool and make no offer leave the counter. -/
theorem noOffer_nextSeq {command : Request → State → Reply}
    (listed : command ∈ [restartHubReply, readEventsReply, ackEventsReply, lineConfigureReply,
      lineReleaseReply]) (rq : Request) (s : State) : (command rq s).state.nextSeq = s.nextSeq := by
  simp only [List.mem_cons, List.not_mem_nil, or_false] at listed
  rcases listed with rfl | rfl | rfl | rfl | rfl
  all_goals
    refine ifAttached_state (p := fun u => u.nextSeq = s.nextSeq) rfl ?_
    try dsimp only
    repeat' split
    all_goals try rfl
  · exact foldl_nextSeq (fun u (e : Entry) => (showRecord_sameOrder u e.slot).nextSeq) ..
  · exact removeOldest_nextSeq ..
  · exact dropFoldRefs_nextSeq ..
  · exact foldl_nextSeq dropFoldRefs_nextSeq ..

/-- The counter's way in a request, whatever its code (R188). -/
theorem commandOf_advances (code : Byte) (rq : Request) (s : State) :
    Advances 9 s (commandOf code rq s).state := by
  change (fun command : Request → State → Reply => Advances 9 s (command rq s).state) (commandOf code)
  unfold commandOf
  split
  case h_1 | h_2 | h_3 | h_8 => exact oneOffer_advances (by simp) rq s
  case h_4 | h_12 | h_13 | h_15 | h_18 => exact .of_eq (noOffer_nextSeq (by simp) rq s)
  case h_6 => exact sendNote_advances rq s
  case h_14 => exact .of_eq (queueStatus_quiet rq s).nextSeq
  case h_16 => exact .of_eq (lineArm_quiet rq s).nextSeq
  case h_17 => exact .of_eq (lineDisarm_quiet rq s).nextSeq
  case h_29 => exact outSeize_advances rq s
  case h_32 => exact .of_eq (setAttention_quiet rq s).nextSeq
  all_goals exact .of_eq (quiet_elsewhere (by simp) rq s).nextSeq

theorem takeFrame_advances (s : State) (h : HostId) (code tag : Byte) (payload : List Byte) :
    Advances 9 s (s.takeFrame h code tag payload) := by
  unfold State.takeFrame
  split
  · rw [State.takeRepeat, restartTimer_eq]
    exact .of_eq (restarted_nextSeq s h)
  · rw [take_eq]
    have acted := commandOf_advances code ⟨h, s.hubTime, payload⟩ (s.restarted h)
    exact (Advances.trans (n := 0) (.of_eq (restarted_nextSeq s h)) acted).mono (Nat.zero_add 9).le

/-! ### Events -/

theorem byteCompletes_advances (h : HostId) (byte : Byte) (e : execByteCompletes h byte s = .next t) :
    Advances 9 s t := by
  unfold execByteCompletes at e
  split at e <;> cases e
  · exact .refl
  · unfold State.receiveByte
    repeat' split
    case h_2.isFalse.isTrue => exact takeFrame_advances ..
    all_goals exact .of_eq rfl
  · exact .of_eq rfl
  · unfold State.sendByte
    dsimp only
    repeat' split
    all_goals exact .of_eq rfl
  · exact .of_eq rfl

theorem timeWrap_advances (levels : LineSet) (e : execTimeWrap levels s = .next t) : Advances 9 s t := by
  unfold execTimeWrap at e
  repeat' split at e
  all_goals cases e
  · exact .of_offer rfl
  · exact .of_offer rfl

theorem endWatch_advances (s : State) (w : WatchId) (kind : Kind) (after : Watch) :
    Advances (n + 1) s (s.endWatch w kind after) := by
  have offered : Advances (n + 1) s
      ((s.setWatch w after).offer (watchOffer kind w s.watches[w] s.hubTime s.settledLevels)).1 :=
    .of_offer rfl
  unfold State.endWatch
  dsimp only
  split
  · exact offered
  · exact offered.trans (m := 0) (.of_eq rfl)

theorem checkExpiry_advances (w : WatchId) (e : execCheckExpiry w s = .next t) : Advances 9 s t := by
  unfold execCheckExpiry at e
  split at e
  · dsimp only at e
    split at e <;> cases e
    · exact .of_eq rfl
    · exact endWatch_advances ..
    · exact endWatch_advances ..
  · cases e

theorem qualificationStart_advances (l : LineId) (e : execQualificationStart l s = .next t) :
    Advances 9 s t := by
  unfold execQualificationStart at e
  split at e <;> cases e
  unfold State.startQualification
  split
  · exact qualifyEdge_advances ..
  · exact .of_eq rfl

/-- A command moves the counter by at most nine, or resets it with every queue. -/
theorem exec_advances {c : Instr} (e : exec c s = .next t) :
    (∀ h : HostId, t.queues[h].entries = []) ∨ Advances 9 s t := by
  cases c
  case powerOnReset | externalReset => cases e; exact .inl fun h => by simp [State.hardReset]
  case timeWrap levels => exact .inr (timeWrap_advances levels e)
  case qualificationStart l => exact .inr (qualificationStart_advances l e)
  case qualifiedEdge l =>
    replace e : execQualifiedEdge l s = .next t := e
    unfold execQualifiedEdge at e
    split at e <;> split at e <;> cases e <;> exact .inr (qualifyEdge_advances ..)
  case checkExpiry w => exact .inr (checkExpiry_advances w e)
  case supervisionExpiry h =>
    replace e : execSupervisionExpiry h s = .next t := e
    unfold execSupervisionExpiry at e
    split at e <;> cases e
    exact .inr (endSession_advances ..)
  case byteCompletes h byte => exact .inr (byteCompletes_advances h byte e)
  case frameError | frameRefusedForLength | frameDiscarded | responseSent | tick | glitch | pulseExpiry |
      selectFalls | selectRises =>
    simp only [exec, execFrameError, execFrameRefusedForLength, execFrameDiscarded, execResponseSent,
      execTick, execGlitch, execPulseExpiry, execSelectFalls, execSelectRises] at e
    repeat' split at e
    all_goals cases e
    all_goals exact .inr (.of_eq rfl)
  all_goals
    rw [exec_request rfl] at e
    split at e <;> cases e
    exact .inr (takeFrame_advances ..)

end Sys2Proof.Machine
end

section
/-!
CLAIM. Entries leave a queue at its head and join at its tail, in the order of creation (O58).
-/

namespace Sys2Proof.Machine

variable {s t u : State} {n : Nat}

/-- A growth from trimmed queues counts its records exactly, once the counter's way is known. -/
theorem Grows.le_of_advances {k : Nat} (trimmed : Trimmed s u) (grows : Grows u n t)
    (moved : Advances k s t) (bound : k ≤ 64) : n ≤ k := by
  obtain ⟨j, least, seq⟩ := moved
  have most := grows.le
  have same : s.nextSeq + BitVec.ofNat 16 n = s.nextSeq + BitVec.ofNat 16 j := by
    rw [← seq, grows.nextSeq, trimmed.nextSeq]
  bv_omega

/-- What stands in order by sequences, stands in order by the records in use. -/
theorem InOrder.records {base : Half} {entries : List Entry} (order : InOrder base n t entries) :
    (∀ e ∈ entries, ∃ r : Record, t.slots[e.slot] = some r ∧ (r.seq - base).toNat < n) ∧
    entries.Pairwise fun e e' => ∀ r ∈ t.slots[e.slot], ∀ r' ∈ t.slots[e'.slot],
      (r.seq - base).toNat < (r'.seq - base).toNat := by
  refine ⟨fun e member => ?_, order.ordered.imp fun earlier r found r' found' => ?_⟩
  · obtain ⟨q, found, age⟩ := order.fresh e member
    obtain ⟨r, used, rfl⟩ := Option.map_eq_some_iff.mp found
    exact ⟨r, used, age⟩
  · exact earlier r.seq (Option.mem_map_of_mem _ found) r'.seq (Option.mem_map_of_mem _ found')

/-- Settles O58: a command trims the queues, then grows them by at most nine records, or empties them. -/
theorem queuesKeepCreationOrder : Obligations.QueuesKeepCreationOrder := by
  intro c s t e h
  have emptied : t.queues[h].entries = [] →
      t.queues[h].entries = s.queues[h].entries.drop s.queues[h].entries.length ++ [] := fun empty => by
    rw [empty, List.drop_length, List.append_nil]
  obtain ⟨ports, u, effect, frame, _⟩ := exec_acts e
  rcases exec_advances e with empty | moved
  · exact ⟨_, [], emptied (empty h), nofun, .nil⟩
  rw [frame] at moved emptied ⊢
  rcases effect.trims_then_grows with cleared | ⟨v, n, trimmed, grows⟩
  · exact ⟨_, [], emptied (cleared.entries h), nofun, .nil⟩
  have few : n ≤ 9 := Grows.le_of_advances trimmed grows moved (by decide)
  obtain ⟨removed, trim⟩ := trimmed.entries h
  obtain ⟨joined, grown, order⟩ := grows.entries h
  rw [trimmed.nextSeq] at order
  obtain ⟨fresh, ordered⟩ := order.records
  refine ⟨removed, joined, by rw [← trim]; exact grown, fun x member => ?_, ordered⟩
  obtain ⟨r, used, age⟩ := fresh x member
  exact ⟨r, used, age.trans_le (few.trans (by decide))⟩

end Sys2Proof.Machine
end

section
/-!
CLAIM. Subscriptions replaced and read, and the routing of an offer by its kind (O25, O30).
-/

namespace Sys2Proof.Machine

variable {s : State}

/-! ### Requests of an ATTACHED host -/

/-- What a request row of an ATTACHED caller answers is what its command does behind the session stage
(R140, R180). -/
theorem attached_answers {i : Instr} {f : RequestFrame} {command behind : Request → State → Reply}
    (frame : i.frame? = some f) (row : exec i s = takeRow f.code command f.host f.tag f.payload s)
    (stage : ∀ rq u, command rq u = ifAttached rq u (behind rq u)) (awaits : s.awaits i = true)
    (attached : s.isAttached f.host = true) :
    let reply := behind ⟨f.host, s.hubTime, f.payload⟩ (s.restarted f.host)
    Answers i s reply.state reply.status reply.payload := by
  have answers := request_answers frame row awaits
  have attached' : (s.restarted f.host).isAttached f.host = true := by
    rw [restarted_isAttached]; exact attached
  dsimp only at answers ⊢
  rw [stage, ifAttached_attached attached'] at answers
  exact answers

/-! ### Subscriptions (R30 to R34) -/

/-- A line set with some members put in or out (R32). -/
theorem holds_putLines (old named : LineSet) (inside : Bool) (l : LineId) :
    holds (putLines old named inside) l = if holds named l then inside else holds old l := by
  unfold putLines
  cases inside <;> cases member : holds named l <;> simp [member]

/-- A class set byte without reserved bits is the byte of the classes it names (R33). -/
theorem classByte_of_byte (x : Subscription) {classes : Byte} (fits : classes &&& 0xFC#8 = 0#8) :
    { x with session := classes.getLsbD 0, time := classes.getLsbD 1 }.classByte = classes := by
  have reserved : ∀ i : Fin 8, 2 ≤ i.val → holds classes i = false := by
    intro i high
    have outside := set_eq_zero.mp fits i
    have masked : holds 0xFC#8 i = true := by clear outside; revert i; decide
    rwa [holds_and, masked, Bool.and_true] at outside
  refine set_ext fun i => ?_
  rw [Subscription.classByte, holds_setOf]
  match i with
  | 0 => rfl
  | 1 => rfl
  | ⟨n + 2, bound⟩ => exact (reserved ⟨n + 2, bound⟩ (Nat.le_add_left 2 n)).symm

/-- The class set byte has SESSION in bit 0 and TIME in bit 1 (R33). -/
theorem classByte_eq (x : Subscription) :
    x.classByte = (if x.session then 1#8 else 0#8) ||| (if x.time then 2#8 else 0#8) := by
  unfold Subscription.classByte
  cases x.session <;> cases x.time <;> decide

/-- Settles O25, payload by payload. -/
theorem subscriptionsAreReplacedAndRead : Obligations.SubscriptionsAreReplacedAndRead := by
  intro h tag payload s attached
  refine ⟨fun awaits => ?_, fun awaits => ?_, fun awaits => ?_⟩
  · have answers := attached_answers (i := .subscribeLines h tag payload)
      (command := subscribeLinesReply) rfl rfl (fun _ _ => rfl) awaits attached
    rcases payload with _ | ⟨hi, _ | ⟨lo, _ | ⟨kinds, _ | _⟩⟩⟩
    case cons.cons.cons.nil =>
      dsimp only [half] at answers ⊢
      split
      · rename_i illFormed
        rw [if_pos illFormed] at answers
        exact answers
      · rename_i wellFormed
        rw [if_neg wellFormed, restarted_subscriptions] at answers
        refine ⟨s.subscriptions[h].putKinds (hi ++ lo) (kinds.getLsbD 0) (kinds.getLsbD 1), fun l =>
          ⟨holds_putLines .., holds_putLines ..⟩, rfl, rfl, ?_⟩
        rw [State.setSubscription, restarted_subscriptions] at answers
        exact answers
    all_goals exact answers
  · have answers := attached_answers (i := .subscribeHub h tag payload)
      (command := subscribeHubReply) rfl rfl (fun _ _ => rfl) awaits attached
    rcases payload with _ | ⟨classes, _ | _⟩
    case cons.nil =>
      dsimp only at answers ⊢
      split
      · rename_i reserved
        rw [if_pos reserved] at answers
        exact answers
      · rename_i fits
        rw [if_neg fits, State.setSubscription, restarted_subscriptions,
          classByte_of_byte _ (not_not.mp fits)] at answers
        exact answers
    all_goals exact answers
  · have answers := attached_answers (i := .readSubscriptions h tag payload)
      (command := readSubscriptionsReply) rfl rfl (fun _ _ => rfl) awaits attached
    dsimp only at answers
    split
    · rename_i nonempty
      rw [if_pos nonempty] at answers
      exact answers
    · rename_i empty
      rw [if_neg empty, restarted_subscriptions, classByte_eq] at answers
      exact answers

/-! ### Routing (R13, R31) -/

/-- The routing set is the candidates that are ATTACHED (R13). -/
theorem holds_routing (s : State) (o : Offer) (h : HostId) :
    holds (s.routing o) h = true ↔
      s.sessions[h].state = .attached ∧ holds (s.candidates o) h = true := by
  rw [State.routing, holds_and, Bool.and_eq_true, State.attachedSet, holds_setOf, State.isAttached,
    beq_iff_eq, and_comm]

/-- A session record's candidates have the SESSION class and are not its subject (R13, R31). -/
theorem candidates_session {o : Offer} {subject : HostId} (source : o.source = .host subject)
    (kind : o.kind ∈ [Kind.hostAttached, .hostDetached, .hostLost, .hostEvicted]) :
    s.candidates o = setOf fun h => s.subscriptions[h].session && h != subject := by
  simp only [List.mem_cons, List.not_mem_nil, or_false] at kind
  rcases kind with kind | kind | kind | kind <;> rw [State.candidates, kind, source]

/-- A time record's candidates have the TIME class (R31). -/
theorem candidates_time {o : Offer} (kind : o.kind ∈ [Kind.timeWrap, .timeAdjusted]) :
    s.candidates o = setOf fun h => s.subscriptions[h].time := by
  simp only [List.mem_cons, List.not_mem_nil, or_false] at kind
  rcases kind with kind | kind <;> simp only [State.candidates, kind]

/-- The other kinds name their candidates in the offer (R31). -/
theorem candidates_named {o : Offer}
    (kind : o.kind ∈ [Kind.watchMatch, .watchTimeout, .note, .outputSeized, .reflexFired]) :
    s.candidates o = o.named := by
  simp only [List.mem_cons, List.not_mem_nil, or_false] at kind
  rcases kind with kind | kind | kind | kind | kind <;> simp only [State.candidates, kind]

/-- Settles O30, by the kind of the offer. -/
theorem offersAreRoutedByKind : Obligations.OffersAreRoutedByKind := by
  intro s o h
  simp only [holds_routing]
  refine ⟨fun l source => ⟨fun kind => ?_, fun kind => ?_⟩, fun g source kind => ?_, fun kind => ?_,
    fun kind => ?_⟩
  · rw [State.candidates, kind, source, holds_setOf]
  · rw [State.candidates, kind, source, holds_setOf]
  · rw [candidates_session source kind, holds_setOf, Bool.and_eq_true, bne_iff_ne]
  · rw [candidates_time kind, holds_setOf]
  · rw [candidates_named kind]

end Sys2Proof.Machine
end

section
/-!
CLAIM. The requests on a host's own queue: READ_EVENTS, ACK_EVENTS and QUEUE_STATUS (O26, O28, O29).
-/

namespace Sys2Proof.Machine

variable {s : State}

/-! ### QUEUE_STATUS (R52) -/

/-- Settles O29, by the clear option. -/
theorem queueStatusReportsAndClears : Obligations.QueueStatusReportsAndClears := by
  intro h tag payload s awaits attached
  have answers := attached_answers (i := .queueStatus h tag payload) (command := queueStatusReply) rfl rfl
    (fun _ _ => rfl) awaits attached
  rcases payload with _ | ⟨clear, _ | _⟩
  case cons.nil =>
    dsimp only at answers ⊢
    simp only [List.cons.injEq, and_true]
    rw [restarted_queues] at answers
    split
    · rename_i keep
      subst keep
      exact answers
    split
    · rename_i _ one
      subst one
      rw [State.setQueue, restarted_queues] at answers
      exact answers
    · rename_i keep one
      rw [if_pos ⟨keep, one⟩] at answers
      exact answers
  all_goals
    dsimp only
    rw [if_neg (by simp), if_neg (by simp)]
    exact answers

/-! ### Entries and their records (R2, R36) -/

/-- The record of a queue's entry is in use (R2). -/
theorem entry_used (law : s.HolderLaw) {h : HostId} {e : Entry} (member : e ∈ s.queues[h].entries) :
    ∃ r, s.slots[e.slot] = some r := by
  refine Option.ne_none_iff_exists'.mp fun free => ?_
  exact (law e.slot).1 free h ⟨e, member, rfl⟩

/-- The entries of a list, encoded each from its record (R44, R189). -/
theorem encodeEntries_eq {entries : List Entry} (used : ∀ e ∈ entries, ∃ r, s.slots[e.slot] = some r) :
    ∃ records : List Record, records.map some = entries.map (fun e => s.slots[e.slot]) ∧
      entries.flatMap s.encodeEntry =
        (List.zipWith (fun e r => entryBytes r e.missedBefore) entries records).flatten := by
  induction entries with
  | nil => exact ⟨[], rfl, rfl⟩
  | cons e es ih =>
    obtain ⟨r, found⟩ := used e (List.mem_cons_self ..)
    obtain ⟨records, same, bytes⟩ := ih fun x member => used x (List.mem_cons_of_mem _ member)
    have head : s.encodeEntry e = entryBytes r e.missedBefore := by rw [State.encodeEntry, found]
    refine ⟨r :: records, by rw [List.map_cons, List.map_cons, same, found], ?_⟩
    rw [List.flatMap_cons, head, bytes, List.zipWith_cons_cons, List.flatten_cons]

theorem restarted_encodeEntry (s : State) (h : HostId) :
    (s.restarted h).encodeEntry = s.encodeEntry :=
  funext fun e => by rw [State.encodeEntry, State.encodeEntry, restarted_slots]

theorem restarted_entrySeq (s : State) (h : HostId) : (s.restarted h).entrySeq = s.entrySeq :=
  funext fun e => by rw [State.entrySeq, State.entrySeq, restarted_slots]

/-! ### READ_EVENTS (R43 to R45) -/

/-- Settles O26: the entries of the window are in use, and showing them is showEntries_spec. -/
theorem readEventsReturnsAndShows : Obligations.ReadEventsReturnsAndShows := by
  intro h tag payload s awaits attached holder fold
  have answers := attached_answers (i := .readEvents h tag payload) (command := readEventsReply) rfl rfl
    (fun _ _ => rfl) awaits attached
  rcases payload with _ | ⟨offset, _ | ⟨count, _ | _⟩⟩
  case cons.cons.nil =>
    dsimp only at answers ⊢
    split
    · rename_i outside
      rw [if_pos outside] at answers
      exact answers
    · rename_i inside
      rw [if_neg inside, restarted_queues, restarted_encodeEntry] at answers
      dsimp only [Queue.window] at answers
      have used : ∀ e ∈ (s.queues[h].entries.drop offset.toNat).take count.toNat,
          ∃ r, s.slots[e.slot] = some r := fun e member =>
        entry_used holder (List.mem_of_mem_drop (List.mem_of_mem_take member))
      obtain ⟨records, same, bytes⟩ := encodeEntries_eq used
      obtain ⟨frame, slots, lines, _⟩ := showEntries_spec ((restarted_foldLaw s h).mpr fold)
        ((s.queues[h].entries.drop offset.toNat).take count.toNat)
      rw [restarted_slots] at slots
      rw [restarted_lines] at lines
      rw [bytes] at answers
      exact ⟨_, records, same, answers, frame, slots, lines⟩
  all_goals exact answers

/-! ### ACK_EVENTS (R47, R48) -/

/-- Settles O28: the count-th entry exists and its record is in use where the queue is long enough, and
the removal is removeOldest_spec. -/
theorem ackEventsRemovesTheOldest : Obligations.AckEventsRemovesTheOldest := by
  intro h tag payload s awaits attached holder queue fold
  have answers := attached_answers (i := .ackEvents h tag payload) (command := ackEventsReply) rfl rfl
    (fun _ _ => rfl) awaits attached
  rcases payload with _ | ⟨count, _ | ⟨hi, _ | ⟨lo, _ | _⟩⟩⟩
  case cons.cons.cons.nil =>
    dsimp only at answers ⊢
    split
    · rename_i outside
      rw [if_pos outside] at answers
      exact answers
    rename_i inside
    have positive : 0 < count.toNat :=
      Nat.pos_of_ne_zero fun zero => inside (.inl (BitVec.eq_of_toNat_eq zero))
    rw [if_neg inside, restarted_queues] at answers
    split
    · rename_i few
      rw [List.getElem?_eq_none (by omega)] at answers
      exact answers
    rename_i enough
    have found := List.getElem?_eq_getElem (l := s.queues[h].entries) (i := count.toNat - 1) (by omega)
    obtain ⟨r, used⟩ := entry_used holder (List.mem_of_getElem? found)
    have seq : (s.restarted h).entrySeq s.queues[h].entries[count.toNat - 1] = r.seq := by
      rw [restarted_entrySeq, State.entrySeq, used]
    rw [found] at answers
    dsimp only at answers
    rw [seq] at answers
    refine ⟨_, r, found, used, ?_⟩
    split
    · rename_i mismatch
      rw [if_pos (c := r.seq ≠ half hi lo) mismatch] at answers
      exact answers
    · rename_i agreed
      rw [if_neg (c := r.seq ≠ half hi lo) agreed] at answers
      obtain ⟨frame, slots, lines, _⟩ := removeOldest_spec ((restarted_foldLaw s h).mpr fold) h
        count.toNat (by rw [restarted_queues]; exact (queue h).2)
      rw [restarted_queues] at frame slots
      rw [restarted_slots] at slots
      rw [restarted_lines] at lines
      exact ⟨_, answers, frame, slots, lines⟩
  all_goals exact answers

end Sys2Proof.Machine
end

section
/-!
SUPPORT. The operations of the pool as the lines see them: each leaves a line all but its fold references,
which it can only lose.
-/

namespace Sys2Proof.Machine

variable {s t u : State} {x y z : Line}

/-! ### Lines that lose fold references -/

/-- The line `y` is `x` but for fold references that it has lost (R19, R24, R72). -/
structure Line.LosesRefs (x y : Line) : Prop where
  rest : y = { x with foldRise := y.foldRise, foldFall := y.foldFall }
  refs : ∀ k, y.foldRef k = x.foldRef k ∨ y.foldRef k = none

theorem Line.LosesRefs.refl (x : Line) : x.LosesRefs x := ⟨rfl, fun _ => .inl rfl⟩

theorem Line.LosesRefs.trans (a : x.LosesRefs y) (b : y.LosesRefs z) : x.LosesRefs z where
  rest := by rw [b.rest, a.rest]
  refs k := by
    rcases b.refs k with same | lost
    · rw [same]; exact a.refs k
    · exact .inr lost

theorem setFoldRef_losesRefs (x : Line) (k : EdgeKind) : x.LosesRefs (x.setFoldRef k none) where
  rest := by cases k <;> rfl
  refs k' := by
    by_cases e : k' = k
    · subst e; exact .inr (setFoldRef_foldRef ..)
    · exact .inl (setFoldRef_foldRef_other _ _ e)

/-- Every line of `t` is that of `s` but for fold references that it has lost. -/
def LosesRefs (s t : State) : Prop := ∀ l : LineId, s.lines[l].LosesRefs t.lines[l]

theorem LosesRefs.of_lines (same : t.lines = s.lines) : LosesRefs s t :=
  fun l => by rw [same]; exact .refl _

theorem LosesRefs.refl (s : State) : LosesRefs s s := .of_lines rfl

theorem LosesRefs.trans (a : LosesRefs s t) (b : LosesRefs t u) : LosesRefs s u :=
  fun l => (a l).trans (b l)

theorem LosesRefs.of_foldl {α : Type} {f : State → α → State} (each : ∀ u x, LosesRefs u (f u x))
    (xs : List α) (s : State) : LosesRefs s (xs.foldl f s) := by
  induction xs generalizing s with
  | nil => exact .refl s
  | cons x xs ih => exact (each s x).trans (ih _)

theorem setLine_losesRefs (s : State) (l : LineId) (k : EdgeKind) :
    LosesRefs s (s.setLine l (s.lines[l].setFoldRef k none)) := by
  intro m
  rw [setLine_getElem]
  split
  · rename_i e; subst e; exact setFoldRef_losesRefs ..
  · exact .refl _

theorem clearFoldRef_losesRefs (s : State) (target : Option (LineId × EdgeKind)) :
    LosesRefs s (s.clearFoldRef target) := by
  match target with
  | none => exact .refl s
  | some (l, k) => exact setLine_losesRefs s l k

theorem showRecord_losesRefs (s : State) (i : SlotId) : LosesRefs s (s.showRecord i) := by
  unfold State.showRecord
  split
  · exact .refl s
  · exact clearFoldRef_losesRefs (s.setSlot i _) _

theorem removeHolder_losesRefs (s : State) (i : SlotId) (h : HostId) :
    LosesRefs s (s.removeHolder i h) := by
  unfold State.removeHolder
  split
  · exact .refl s
  · dsimp only
    split
    · exact clearFoldRef_losesRefs (s.setSlot i none) _
    · exact .of_lines rfl

theorem removeHead_losesRefs (s : State) (h : HostId) : LosesRefs s (s.removeHead h) := by
  unfold State.removeHead
  split
  · exact .refl s
  · exact removeHolder_losesRefs (s.setQueue h _) _ h

theorem removeOldest_losesRefs (s : State) (h : HostId) (n : Nat) : LosesRefs s (s.removeOldest h n) := by
  induction n generalizing s with
  | zero => exact .refl s
  | succ n ih => exact (removeHead_losesRefs s h).trans (ih _)

theorem dropFoldRef_losesRefs (s : State) (l : LineId) (k : EdgeKind) :
    LosesRefs s (s.dropFoldRef l k) := by
  unfold State.dropFoldRef
  split
  · exact .refl s
  · dsimp only
    split <;> exact setLine_losesRefs s l k

theorem dropFoldRefs_losesRefs (s : State) (l : LineId) : LosesRefs s (s.dropFoldRefs l) :=
  (dropFoldRef_losesRefs s l .rise).trans (dropFoldRef_losesRefs _ l .fall)

end Sys2Proof.Machine
end

section
/-!
CLAIM. The Line Monitor's first law is kept by every step (O52).
-/

namespace Sys2Proof.Machine

variable {s t u : State} {x y : Line}

/-! ### The law of one line (R64) -/

/-- The Line Monitor's first law, of one line. -/
def Line.Law (x : Line) : Prop :=
  (x.state = .disarming → x.qualification.isSome = true) ∧
  (x.state = .unset → x.owner = none ∧ x.foldRise = none ∧ x.foldFall = none)

theorem lineLaw_iff (s : State) : s.LineLaw ↔ ∀ l : LineId, s.lines[l].Law := Iff.rfl

theorem lineLaw_of_lines (same : t.lines = s.lines) (law : s.LineLaw) : t.LineLaw := by
  rw [lineLaw_iff, same]
  exact law

/-- A line that is neither DISARMING nor UNSET. -/
theorem Line.Law.of_state (state : x.state = .disarmed ∨ x.state = .armed) : x.Law := by
  rcases state with e | e <;> exact ⟨fun e' => by simp [e] at e', fun e' => by simp [e] at e'⟩

theorem unconfigured_law (x : Line) : x.unconfigured.Law := ⟨nofun, fun _ => ⟨rfl, rfl, rfl⟩⟩

theorem disarm_law (law : x.Law) : x.disarm.Law := by
  unfold Line.disarm
  split
  · split
    · rename_i qualifying
      exact ⟨fun _ => qualifying, nofun⟩
    · exact .of_state (.inl rfl)
  · exact law

theorem tick_law (law : x.Law) : x.tick.Law :=
  ⟨fun e => by rw [Line.tick, Option.isSome_map]; exact law.1 e, law.2⟩

/-- A line that only gives up its owner and fold references keeps the law. -/
theorem Line.Law.losesRefs (law : x.Law) (loses : x.LosesRefs y) : y.Law := by
  have gone : ∀ k, x.foldRef k = none → y.foldRef k = none := by
    intro k absent
    rcases loses.refs k with same | lost
    · rw [same]; exact absent
    · exact lost
  rw [Line.Law, loses.rest]
  refine ⟨law.1, fun unset => ?_⟩
  obtain ⟨owner, rise, fall⟩ := law.2 unset
  exact ⟨owner, gone .rise rise, gone .fall fall⟩

/-- The end of a qualification, DISARMING ended with it. -/
theorem endDisarming_law (unset : x.state = .unset → x.owner = none ∧ x.foldRise = none ∧ x.foldFall = none) :
    x.endDisarming.Law := by
  refine ⟨fun disarming => ?_, fun e => unset ?_⟩
  · simp only [Line.endDisarming] at disarming
    split at disarming
    · cases disarming
    · rename_i other; exact absurd disarming other
  · simp only [Line.endDisarming] at e
    split at e
    · cases e
    · exact e

/-! ### The law of every line, operation by operation -/

theorem LosesRefs.lineLaw (loses : LosesRefs s t) (law : s.LineLaw) : t.LineLaw :=
  fun l => (show s.lines[l].Law from law l).losesRefs (loses l)

theorem setLine_lineLaw {l : LineId} (law : s.LineLaw) (line : x.Law) : (s.setLine l x).LineLaw := by
  rw [lineLaw_iff]
  intro m
  rw [setLine_getElem]
  split
  · exact line
  · exact law m

theorem mapLines_lineLaw {named : LineSet} {f : Line → Line} (law : s.LineLaw)
    (lines : ∀ x : Line, x.Law → (f x).Law) : (s.mapLines named f).LineLaw := by
  rw [lineLaw_iff]
  intro l
  rw [mapLines_getElem]
  split
  · exact lines _ (law l)
  · exact law l

/-- A change of every line by itself keeps the law where it keeps that of each. -/
theorem map_lineLaw {f : Line → Line} (law : s.LineLaw) (lines : ∀ x : Line, x.Law → (f x).Law)
    (mapped : t.lines = s.lines.map f) : t.LineLaw := by
  rw [lineLaw_iff, mapped]
  intro l
  rw [Fin.getElem_fin, Vector.getElem_map]
  exact lines _ (law l)

/-- A session end takes lines' owners and fold references, and nothing else (R77). -/
theorem endSession_lineLaw (h : HostId) (c : EndCause) (law : s.LineLaw) : (s.endSession h c).LineLaw := by
  have removed := (removeOldest_losesRefs (s.setSession h (s.sessions[h].ended c)) h
    s.queues[h].entries.length).lineLaw law
  refine map_lineLaw removed (f := fun x => if x.owner = some h then { x with owner := none } else x)
    (fun x line => ?_) (offer_lines ..)
  split
  · exact ⟨line.1, fun unset => ⟨rfl, (line.2 unset).2⟩⟩
  · exact line

theorem handTick_lineLaw (levels : LineSet) (law : s.LineLaw) : (s.handTick levels).LineLaw :=
  map_lineLaw law (fun _ => tick_law) rfl

/-! ### Edges (R62, R67, R69 to R73) -/

@[simp] theorem takeOffers_lines (s : State) (offers : List Offer) : (s.takeOffers offers).lines = s.lines := by
  rw [takeOffers_frame]

/-- The record part of a report leaves every line, or makes a record the line's fold target (R17). -/
theorem recordEdge_line (s : State) (l m : LineId) (k : EdgeKind) (t0 : HubTime) (snapshot : LineSet) :
    (s.recordEdge l k t0 snapshot).lines[m] = s.lines[m] ∨
    ∃ i, m = l ∧ (s.recordEdge l k t0 snapshot).lines[m] = s.lines[m].setFoldRef k (some i) := by
  rcases recordEdge_cases s l k t0 snapshot with ⟨_, e⟩ | ⟨i, _, _, _, _, _, e⟩ | ⟨i, _, _, e⟩ <;> rw [e]
  · exact .inl (by rw [offer_lines])
  · have line := setLine_getElem (s.offer (edgeOffer l k t0 snapshot)).1 l m
      ((s.offer (edgeOffer l k t0 snapshot)).1.lines[l].setFoldRef k (some i))
    rw [setLine_lines] at line
    rw [setFoldTarget_lines, line, offer_lines]
    split
    · rename_i same; subst same; exact .inr ⟨i, rfl, rfl⟩
    · exact .inl rfl
  · exact .inl (by rw [foldRecord_frame])

/-- A report leaves every line, or makes a record the line's fold target. -/
theorem reportEdge_line (s : State) (l m : LineId) (k : EdgeKind) (t0 : HubTime) (snapshot : LineSet) :
    (s.reportEdge l k t0 snapshot).lines[m] = s.lines[m] ∨
    ∃ i, m = l ∧ (s.reportEdge l k t0 snapshot).lines[m] = s.lines[m].setFoldRef k (some i) := by
  unfold State.reportEdge
  dsimp only
  split
  · exact recordEdge_line (s.fireReflexes l k) ..
  · rename_i o os _
    rw [takeOffers_lines]
    have record := recordEdge_line ({ s.fireReflexes l k with
      draws := (s.fireReflexes l k).draws + 1 }.takeOffers
        ((o :: os).take (Config.reflexOffersFirst (s.fireReflexes l k).draws))) l m k t0 snapshot
    rw [takeOffers_lines] at record
    exact record

/-- A qualified edge keeps the law: a line that reports is not UNSET, and DISARMING ends with the
qualification. -/
theorem qualifyEdge_lineLaw (l : LineId) (t0 : HubTime) (law : s.LineLaw) : (s.qualifyEdge l t0).LineLaw := by
  have line : s.lines[l].Law := law l
  have flipped : ∀ m : LineId, m ≠ l → (s.setLine l (s.lines[l].qualify t0)).lines[m] = s.lines[m] :=
    fun m other => by rw [setLine_getElem, if_neg other]
  have self : (s.setLine l (s.lines[l].qualify t0)).lines[l] = s.lines[l].qualify t0 := by
    rw [setLine_getElem, if_pos rfl]
  unfold State.qualifyEdge
  dsimp only
  rw [lineLaw_iff]
  intro m
  rw [setLine_getElem]
  split
  · refine endDisarming_law fun unset => ?_
    split at unset
    · rename_i reports
      have idle : s.lines[l].state ≠ .unset := by
        intro e
        rw [Line.reports, e] at reports
        cases reports
      refine absurd ?_ idle
      rcases reportEdge_line (s.setLine l (s.lines[l].qualify t0)) l l s.lines[l].settled.edgeFrom t0
        (s.setLine l (s.lines[l].qualify t0)).settledLevels with e | ⟨i, _, e⟩ <;> rw [e, self] at unset
      · exact unset
      · cases k : s.lines[l].settled <;> rw [k] at unset <;> exact unset
    · rename_i silent
      rw [if_neg silent]
      rw [self] at unset ⊢
      exact line.2 unset
  · rename_i other
    split
    · rcases reportEdge_line (s.setLine l (s.lines[l].qualify t0)) l m s.lines[l].settled.edgeFrom t0
        (s.setLine l (s.lines[l].qualify t0)).settledLevels with e | ⟨i, same, _⟩
      · rw [e, flipped m other]; exact law m
      · exact absurd same other
    · rw [flipped m other]; exact law m

/-! ### Requests -/

/-- The requests that make offers act on no line. -/
theorem offering_lines {command : Request → State → Reply}
    (listed : command ∈ [attachReply, sendNoteReply, adjustTimeReply, outSeizeReply])
    (rq : Request) (s : State) : (command rq s).state.lines = s.lines := by
  simp only [List.mem_cons, List.not_mem_nil, or_false] at listed
  rcases listed with rfl | rfl | rfl | rfl
  · unfold attachReply
    repeat' split
    case h_1 => exact offer_lines ..
    all_goals rfl
  all_goals
    refine ifAttached_state (p := fun u => u.lines = s.lines) rfl ?_
    try dsimp only
    repeat' split
  case h_2.isFalse.isFalse =>
    unfold noteReply
    split
    · rfl
    · rfl
    · exact offer_lines ..
    · exact offer_lines ..
  case h_1.isFalse.isFalse => exact offer_lines ..
  case h_1.isFalse.isFalse.isFalse => exact takeOffers_lines ..
  all_goals rfl

/-- The requests that make no offer and concern no line, no record and no session act on no line. -/
theorem lines_elsewhere {command : Request → State → Reply}
    (listed : command ∈ [hubStatusReply, readTimeReply, unknownReply, subscribeLinesReply,
      subscribeHubReply, readSubscriptionsReply, queueStatusReply, lineStatusReply, watchInstallReply,
      watchCancelReply, watchReadReply, outClaimReply, outReleaseReply, outDriveReply, outPulseReply,
      outBindReply, outUnbindReply, outSafeReply, outStatusReply, setAttentionReply,
      clearAttentionReply]) (rq : Request) (s : State) : (command rq s).state.lines = s.lines := by
  simp only [List.mem_cons, List.not_mem_nil, or_false] at listed
  rcases listed with rfl | rfl | rfl | listed
  · unfold hubStatusReply; split <;> rfl
  · unfold readTimeReply; split <;> rfl
  · rfl
  rcases listed with rfl | rfl | rfl | rfl | rfl | rfl | rfl | rfl | rfl | rfl | rfl | rfl | rfl | rfl |
    rfl | rfl | rfl | rfl
  all_goals
    refine ifAttached_state (p := fun u => u.lines = s.lines) rfl ?_
    try dsimp only
    repeat' split
    all_goals rfl

theorem lineConfigure_lineLaw (rq : Request) (law : s.LineLaw) : (lineConfigureReply rq s).state.LineLaw := by
  refine ifAttached_state law ?_
  repeat' split
  case h_1.isFalse.isFalse =>
    exact setLine_lineLaw ((dropFoldRefs_losesRefs s _).lineLaw law) (.of_state (.inl rfl))
  all_goals exact law

theorem lineArm_lineLaw (rq : Request) (law : s.LineLaw) : (lineArmReply rq s).state.LineLaw := by
  refine ifAttached_state law ?_
  split
  · split
    · exact law
    · exact mapLines_lineLaw (f := fun x => { x with state := .armed }) law
        fun _ _ => .of_state (.inr rfl)
  · exact law

theorem lineDisarm_lineLaw (rq : Request) (law : s.LineLaw) : (lineDisarmReply rq s).state.LineLaw := by
  refine ifAttached_state law ?_
  dsimp only
  repeat' split
  case h_1.isFalse.isFalse.isFalse => exact mapLines_lineLaw law fun _ => disarm_law
  all_goals exact law

theorem lineRelease_lineLaw (rq : Request) (law : s.LineLaw) : (lineReleaseReply rq s).state.LineLaw := by
  refine ifAttached_state law ?_
  split
  · split
    · exact law
    · exact mapLines_lineLaw ((LosesRefs.of_foldl dropFoldRefs_losesRefs _ s).lineLaw law)
        fun x _ => unconfigured_law x
  · exact law

/-- The requests that can end a session, or show or free records. -/
theorem lineLaw_of_pool {command : Request → State → Reply}
    (listed : command ∈ [detachReply, evictReply, restartHubReply, readEventsReply, ackEventsReply])
    (rq : Request) (law : s.LineLaw) : (command rq s).state.LineLaw := by
  simp only [List.mem_cons, List.not_mem_nil, or_false] at listed
  rcases listed with rfl | rfl | rfl | rfl | rfl
  all_goals
    refine ifAttached_state law ?_
    try dsimp only
    repeat' split
    all_goals try exact law
  · exact endSession_lineLaw _ _ law
  · exact endSession_lineLaw _ _ law
  · exact map_lineLaw law (fun x _ => unconfigured_law x) rfl
  · exact (LosesRefs.of_foldl (fun u (e : Entry) => showRecord_losesRefs u e.slot) _ s).lineLaw law
  · exact (removeOldest_losesRefs s _ _).lineLaw law

/-- Every request keeps the law, whatever its code (R188). -/
theorem commandOf_lineLaw (code : Byte) (rq : Request) (law : s.LineLaw) :
    (commandOf code rq s).state.LineLaw := by
  change (fun command : Request → State → Reply => (command rq s).state.LineLaw) (commandOf code)
  unfold commandOf
  split
  case h_2 | h_3 | h_4 | h_12 | h_13 => exact lineLaw_of_pool (by simp) rq law
  case h_15 => exact lineConfigure_lineLaw rq law
  case h_16 => exact lineArm_lineLaw rq law
  case h_17 => exact lineDisarm_lineLaw rq law
  case h_18 => exact lineRelease_lineLaw rq law
  case h_1 | h_6 | h_8 | h_29 => exact lineLaw_of_lines (offering_lines (by simp) rq s) law
  all_goals exact lineLaw_of_lines (lines_elsewhere (by simp) rq s) law

theorem takeFrame_lineLaw (h : HostId) (code tag : Byte) (payload : List Byte) (law : s.LineLaw) :
    (s.takeFrame h code tag payload).LineLaw := by
  have restarted : (s.restarted h).LineLaw := lineLaw_of_lines (restarted_lines s h) law
  unfold State.takeFrame
  split
  · rw [State.takeRepeat, restartTimer_eq]
    exact lineLaw_of_lines rfl restarted
  · rw [take_eq]
    exact lineLaw_of_lines rfl (commandOf_lineLaw code _ restarted)

/-! ### Every command -/

theorem receiveByte_lineLaw (h : HostId) (bytes : List Byte) (crc byte : Byte) (law : s.LineLaw) :
    (s.receiveByte h bytes crc byte).LineLaw := by
  unfold State.receiveByte
  repeat' split
  case h_2.isFalse.isTrue => exact takeFrame_lineLaw _ _ _ _ law
  all_goals exact lineLaw_of_lines rfl law

theorem byteCompletes_lineLaw (h : HostId) (byte : Byte) (law : s.LineLaw)
    (e : execByteCompletes h byte s = .next t) : t.LineLaw := by
  unfold execByteCompletes at e
  split at e <;> cases e
  case h_2 => exact receiveByte_lineLaw _ _ _ _ law
  case h_4 =>
    refine lineLaw_of_lines ?_ law
    unfold State.sendByte
    dsimp only
    repeat' split
    all_goals rfl
  all_goals exact lineLaw_of_lines rfl law

theorem tick_lineLaw (event : TickEvent) (law : s.LineLaw) (e : execTick event s = .next t) :
    t.LineLaw := by
  cases event <;> dsimp only [execTick] at e
  case whole levels =>
    split at e
    · cases e
    split at e <;> cases e
    · exact lineLaw_of_lines rfl (handTick_lineLaw levels law)
    · exact handTick_lineLaw (s := s.count) levels law
  case handedOut levels =>
    split at e <;> cases e
    exact lineLaw_of_lines rfl (handTick_lineLaw levels law)
  case counted =>
    split at e <;> cases e
    exact lineLaw_of_lines rfl law

theorem timeWrap_lineLaw (levels : LineSet) (law : s.LineLaw) (e : execTimeWrap levels s = .next t) :
    t.LineLaw := by
  have wrap : ∀ u : State, u.wrap.lines = u.lines := fun u => offer_lines ..
  unfold execTimeWrap at e
  split at e
  · cases e
  split at e
  · cases e
    exact lineLaw_of_lines (wrap s) law
  split at e <;> cases e
  exact lineLaw_of_lines (wrap _) (handTick_lineLaw levels law)

theorem hardReset_lineLaw (s : State) (cause : ResetCause) (straps : HostSet) (levels : LineSet)
    (selects : HostSet) : (s.hardReset cause straps levels selects).LineLaw := by
  rw [lineLaw_iff]
  intro l
  simp only [State.hardReset, Fin.getElem_fin, Vector.getElem_ofFn]
  exact ⟨nofun, fun _ => ⟨rfl, rfl, rfl⟩⟩

theorem qualificationStart_lineLaw (l : LineId) (law : s.LineLaw)
    (e : execQualificationStart l s = .next t) : t.LineLaw := by
  have line : s.lines[l].Law := law l
  unfold execQualificationStart State.startQualification at e
  split at e
  · split at e <;> cases e
    · exact qualifyEdge_lineLaw _ _ law
    · exact setLine_lineLaw law ⟨fun _ => rfl, line.2⟩
  · cases e

theorem glitch_lineLaw (l : LineId) (law : s.LineLaw) (e : execGlitch l s = .next t) : t.LineLaw := by
  have line : s.lines[l].Law := law l
  unfold execGlitch at e
  split at e <;> cases e
  exact setLine_lineLaw law (endDisarming_law line.2)

theorem qualifiedEdge_lineLaw (l : LineId) (law : s.LineLaw) (e : execQualifiedEdge l s = .next t) :
    t.LineLaw := by
  unfold execQualifiedEdge at e
  split at e <;> split at e <;> cases e <;> exact qualifyEdge_lineLaw _ _ law

/-- A watch entry's check acts on no line. -/
theorem checkExpiry_lines (w : WatchId) (e : execCheckExpiry w s = .next t) : t.lines = s.lines := by
  have ends : ∀ kind after, (s.endWatch w kind after).lines = s.lines := by
    intro kind after
    unfold State.endWatch
    dsimp only
    split
    · exact offer_lines ..
    · exact offer_lines ..
  unfold execCheckExpiry at e
  dsimp only at e
  split at e
  · split at e <;> cases e
    · rfl
    · exact ends ..
    · exact ends ..
  · cases e

/-- The events of a port other than a byte, and a pulse's expiry, act on no line. -/
theorem event_lines {c : Instr}
    (listed : (∃ h crc, c = .frameError h crc) ∨ (∃ h length, c = .frameRefusedForLength h length) ∨
      (∃ h, c = .frameDiscarded h ∨ c = .responseSent h ∨ c = .selectFalls h ∨ c = .selectRises h) ∨
      ∃ o, c = .pulseExpiry o) (e : exec c s = .next t) : t.lines = s.lines := by
  rcases listed with ⟨h, crc, rfl⟩ | ⟨h, length, rfl⟩ | ⟨h, rfl | rfl | rfl | rfl⟩ | ⟨o, rfl⟩
  · change execFrameError h crc s = _ at e
    unfold execFrameError at e
    repeat' split at e
    all_goals cases e
    rfl
  · change execFrameRefusedForLength h length s = _ at e
    unfold execFrameRefusedForLength at e
    repeat' split at e
    all_goals cases e
    rfl
  · change execFrameDiscarded h s = _ at e
    unfold execFrameDiscarded at e
    split at e <;> cases e
    rfl
  · change execResponseSent h s = _ at e
    unfold execResponseSent at e
    split at e <;> cases e
    rfl
  · change execSelectFalls h s = _ at e
    unfold execSelectFalls at e
    split at e <;> cases e
    rfl
  · change execSelectRises h s = _ at e
    unfold execSelectRises at e
    split at e <;> cases e <;> rfl
  · change execPulseExpiry o s = _ at e
    unfold execPulseExpiry at e
    repeat' split at e
    all_goals cases e
    rfl

theorem request_lineLaw {i : Instr} {f : RequestFrame} (frame : i.frame? = some f) (law : s.LineLaw)
    (e : exec i s = .next t) : t.LineLaw := by
  rw [exec_request frame] at e
  split at e <;> cases e
  exact takeFrame_lineLaw _ _ _ _ law

theorem exec_lineLaw {c : Instr} (law : s.LineLaw) (e : exec c s = .next t) : t.LineLaw := by
  cases c
  case frameError | frameRefusedForLength | frameDiscarded | responseSent | selectFalls | selectRises |
      pulseExpiry => exact lineLaw_of_lines (event_lines (by simp) e) law
  case powerOnReset => cases e; exact hardReset_lineLaw s _ _ _ _
  case externalReset => cases e; exact hardReset_lineLaw s _ _ _ _
  case tick event => exact tick_lineLaw event law e
  case timeWrap levels => exact timeWrap_lineLaw levels law e
  case qualificationStart l => exact qualificationStart_lineLaw l law e
  case glitch l => exact glitch_lineLaw l law e
  case qualifiedEdge l => exact qualifiedEdge_lineLaw l law e
  case checkExpiry w => exact lineLaw_of_lines (checkExpiry_lines w e) law
  case supervisionExpiry h =>
    change execSupervisionExpiry h s = _ at e
    unfold execSupervisionExpiry at e
    split at e <;> cases e
    exact endSession_lineLaw _ _ law
  case byteCompletes h byte => exact byteCompletes_lineLaw h byte law e
  all_goals exact request_lineLaw rfl law e

/-- Settles O52: what every command keeps, every step keeps. -/
theorem stepKeepsTheLineLaw : Obligations.StepKeepsTheLineLaw := by
  intro s t law e
  exact step_keeps (p := State.LineLaw) (fun _ _ => id) (fun _ _ _ => exec_lineLaw) law e

end Sys2Proof.Machine
end

section
/-!
SUPPORT. Undisturbed: what every operation on what a host owns leaves of the other hosts.
-/

namespace Sys2Proof.Machine

variable {s t u : State} {h g : HostId}

/-! ### What a request leaves of the other hosts -/

/-- What stands of host `g` in `s` stands of it in `t`, but that its queue may have taken entries at its
tail. -/
structure HostKept (g : HostId) (s t : State) : Prop where
  session : t.sessions[g] = s.sessions[g]
  subscription : t.subscriptions[g] = s.subscriptions[g]
  port : t.ports[g] = s.ports[g]
  threshold : t.queues[g].threshold = s.queues[g].threshold
  enabled : t.attention[g].enabled = s.attention[g].enabled
  entries : s.queues[g].entries <+: t.queues[g].entries

theorem HostKept.refl (g : HostId) (s : State) : HostKept g s s := ⟨rfl, rfl, rfl, rfl, rfl, [], List.append_nil _⟩

/-- A change outside sessions, subscriptions, ports, queues and attention keeps every host. -/
theorem HostKept.of_fields (sessions : t.sessions = s.sessions) (ports : t.ports = s.ports)
    (subscriptions : t.subscriptions = s.subscriptions) (queues : t.queues = s.queues)
    (attention : t.attention = s.attention) : HostKept g s t :=
  ⟨by rw [sessions], by rw [subscriptions], by rw [ports], by rw [queues], by rw [attention],
    by rw [queues]⟩

theorem HostKept.trans (a : HostKept g s t) (b : HostKept g t u) : HostKept g s u where
  session := b.session.trans a.session
  subscription := b.subscription.trans a.subscription
  port := b.port.trans a.port
  threshold := b.threshold.trans a.threshold
  enabled := b.enabled.trans a.enabled
  entries := a.entries.trans b.entries

/-- What host `h` leaves as it was: the outputs, lines and watch entries of other hosts but for fold
references and notify sets, every safe level, the other hosts themselves, and the time. -/
structure Undisturbed (h : HostId) (s t : State) : Prop where
  outputs : ∀ (o : OutputId) (g : HostId), s.outputs[o].owner = some g → g ≠ h →
    t.outputs[o] = s.outputs[o]
  safe : ∀ o : OutputId, t.outputs[o].safe = s.outputs[o].safe
  lines : ∀ (l : LineId) (g : HostId), s.lines[l].owner = some g → g ≠ h →
    t.lines[l] = { s.lines[l] with foldRise := t.lines[l].foldRise, foldFall := t.lines[l].foldFall }
  watches : ∀ (w : WatchId) (g : HostId), s.watches[w].state ≠ .free → s.watches[w].owner = some g →
    g ≠ h → t.watches[w] = { s.watches[w] with notify := t.watches[w].notify }
  hosts : ∀ g : HostId, g ≠ h → HostKept g s t
  hubTime : t.hubTime = s.hubTime
  epoch : t.epoch = s.epoch

theorem Undisturbed.refl (h : HostId) (s : State) : Undisturbed h s s :=
  ⟨fun _ _ _ _ => rfl, fun _ => rfl, fun _ _ _ _ => rfl, fun _ _ _ _ _ => rfl, fun g _ => .refl g s, rfl, rfl⟩

theorem Undisturbed.trans (a : Undisturbed h s t) (b : Undisturbed h t u) : Undisturbed h s u where
  outputs o g owner other := by
    have same := a.outputs o g owner other
    rw [b.outputs o g (by rw [same]; exact owner) other, same]
  safe o := (b.safe o).trans (a.safe o)
  lines l g owner other := by
    have same := a.lines l g owner other
    rw [b.lines l g (by rw [same]; exact owner) other, same]
  watches w g used owner other := by
    have same := a.watches w g used owner other
    rw [b.watches w g (by rw [same]; exact used) (by rw [same]; exact owner) other, same]
  hosts g other := (a.hosts g other).trans (b.hosts g other)
  hubTime := b.hubTime.trans a.hubTime
  epoch := b.epoch.trans a.epoch

/-! ### Operations on what the caller owns, or nobody -/

/-- A vector with one element set, read at another. -/
theorem set_getElem_other {α : Type} {n : Nat} {i j : Fin n} (v : Vector α n) (x : α) (other : j ≠ i) :
    (v.set i.val x)[j] = v[j] :=
  Vector.getElem_set_ne _ _ fun e => other (Fin.ext e.symm)

theorem Undisturbed.of_setLine {l : LineId} {x : Line}
    (own : ∀ g, s.lines[l].owner = some g → g = h) : Undisturbed h s (s.setLine l x) :=
  { Undisturbed.refl h s with
    hosts := fun g _ => .of_fields rfl rfl rfl rfl rfl
    lines := fun m g owner other => by
      have : m ≠ l := by rintro rfl; exact other (own g owner)
      rw [setLine_getElem, if_neg this] }

theorem Undisturbed.of_mapLines {named : LineSet} {f : Line → Line}
    (own : ∀ l : LineId, holds named l = true → ∀ g, s.lines[l].owner = some g → g = h) :
    Undisturbed h s (s.mapLines named f) where
  outputs _ _ _ _ := by rw [mapLines_outputs]
  safe _ := by rw [mapLines_outputs]
  lines l g owner other := by
    have kept : (s.mapLines named f).lines[l] = s.lines[l] := by
      rw [mapLines_getElem, if_neg fun member => other (own l member g owner)]
    rw [kept]
  watches _ _ _ _ _ := by rw [mapLines_watches]
  hosts _ _ := .of_fields (mapLines_sessions ..) (mapLines_ports ..) (mapLines_subscriptions ..)
    (mapLines_queues ..) (mapLines_attention ..)
  hubTime := mapLines_hubTime ..
  epoch := mapLines_epoch ..

/-- Fold references lost, of any host's lines. -/
theorem Undisturbed.of_losesRefs (loses : LosesRefs s t)
    (frame : t = { s with slots := t.slots, lines := t.lines }) : Undisturbed h s t := by
  have lines : ∀ (l : LineId) (g : HostId), s.lines[l].owner = some g → g ≠ h → t.lines[l] =
      { s.lines[l] with foldRise := t.lines[l].foldRise, foldFall := t.lines[l].foldFall } :=
    fun l _ _ _ => (loses l).rest
  generalize t.slots = slots, t.lines = after at frame lines
  subst frame
  exact { Undisturbed.refl h s with
    hosts := fun g _ => .of_fields rfl rfl rfl rfl rfl
    lines := lines }

theorem Undisturbed.of_setOutput {o : OutputId} {x : Output} (own : s.outputs[o].owner = some h)
    (safe : x.safe = s.outputs[o].safe) : Undisturbed h s (s.setOutput o x) :=
  { Undisturbed.refl h s with
    hosts := fun g _ => .of_fields rfl rfl rfl rfl rfl
    outputs := fun o' g owner other => by
      have : o' ≠ o := by
        rintro rfl
        rw [own] at owner
        exact other (Option.some.inj owner).symm
      exact set_getElem_other _ _ this
    safe := fun o' => by
      by_cases e : o' = o
      · subst e; simpa using safe
      · exact congrArg Output.safe (set_getElem_other s.outputs x e) }

theorem mapOutputs_getElem (s : State) (outs : OutputSet) (f : OutputId → Output → Output) (o : OutputId) :
    (s.mapOutputs outs f).outputs[o] = if holds outs o then f o s.outputs[o] else s.outputs[o] := by
  simp [State.mapOutputs]

theorem Undisturbed.of_mapOutputs {outs : OutputSet} {f : OutputId → Output → Output}
    (own : ∀ o : OutputId, holds outs o = true → ∀ g, s.outputs[o].owner = some g → g ≠ h →
      f o s.outputs[o] = s.outputs[o])
    (safe : ∀ o x, (f o x).safe = x.safe) : Undisturbed h s (s.mapOutputs outs f) :=
  { Undisturbed.refl h s with
    hosts := fun g _ => .of_fields rfl rfl rfl rfl rfl
    outputs := fun o g owner other => by
      rw [mapOutputs_getElem]
      split
      · rename_i member; exact own o member g owner other
      · rfl
    safe := fun o => by
      rw [mapOutputs_getElem]
      split
      · exact safe ..
      · rfl }

theorem Undisturbed.of_setWatch {w : WatchId} {x : Watch}
    (own : s.watches[w].state ≠ .free → ∀ g, s.watches[w].owner = some g → g = h) :
    Undisturbed h s (s.setWatch w x) :=
  { Undisturbed.refl h s with
    hosts := fun g _ => .of_fields rfl rfl rfl rfl rfl
    watches := fun w' g used owner other => by
      have : w' ≠ w := by rintro rfl; exact other (own used g owner)
      have kept : (s.setWatch w x).watches[w'] = s.watches[w'] := set_getElem_other _ _ this
      rw [kept] }

theorem Undisturbed.of_setSession (x : Session) : Undisturbed h s (s.setSession h x) :=
  { Undisturbed.refl h s with
    hosts := fun g other => { HostKept.refl g s with session := set_getElem_other _ _ other } }

theorem Undisturbed.of_setSubscription (x : Subscription) : Undisturbed h s (s.setSubscription h x) :=
  { Undisturbed.refl h s with
    hosts := fun g other => { HostKept.refl g s with subscription := set_getElem_other _ _ other } }

theorem Undisturbed.of_setAttention (x : Attention) : Undisturbed h s (s.setAttention h x) :=
  { Undisturbed.refl h s with
    hosts := fun g other =>
      { HostKept.refl g s with enabled := congrArg Attention.enabled (set_getElem_other _ _ other) } }

theorem Undisturbed.of_setPort (x : Port) : Undisturbed h s (s.setPort h x) :=
  { Undisturbed.refl h s with
    hosts := fun g other => { HostKept.refl g s with port := set_getElem_other _ _ other } }

theorem Undisturbed.of_setQueue (q : Queue) : Undisturbed h s (s.setQueue h q) :=
  { Undisturbed.refl h s with
    hosts := fun g other => by
      have kept : (s.setQueue h q).queues[g] = s.queues[g] := by rw [setQueue_getElem, if_neg other]
      exact { HostKept.refl g s with
        threshold := by rw [kept]
        entries := by rw [kept] } }

theorem restarted_undisturbed (s : State) (h : HostId) : Undisturbed h s (s.restarted h) := by
  rw [← restartTimer_eq]
  unfold State.restartTimer
  split
  · exact .of_setSession _
  · exact .refl h s

/-! ### The pool and the queues -/

@[simp] theorem post_enabled (a : Attention) (x : Session) (c : CauseSet) :
    (a.post x c).enabled = a.enabled := by
  unfold Attention.post
  split
  · rfl
  split <;> rfl

/-- A charge of misses leaves every host's threshold, entries and enabled set (R39). -/
theorem HostKept.of_chargeMisses (s : State) (hosts : HostSet) (g : HostId) :
    HostKept g s (s.chargeMisses hosts) := by
  refine { HostKept.refl g s with threshold := ?_, enabled := ?_, entries := ?_ }
  all_goals
    simp only [State.chargeMisses, Fin.getElem_fin, Vector.getElem_ofFn]
    split
  · rfl
  · rfl
  · exact post_enabled ..
  · rfl
  · exact ⟨[], List.append_nil _⟩
  · exact ⟨[], List.append_nil _⟩

/-- A creation puts entries at the tail of queues (R38). -/
theorem HostKept.of_create (s : State) (o : Offer) (i : SlotId) (recipients : HostSet) (g : HostId) :
    HostKept g s (s.create o i recipients) := by
  refine { HostKept.refl g s with threshold := ?_, enabled := ?_, entries := ?_ }
  all_goals
    simp only [State.create, State.joinQueues, Fin.getElem_fin, Vector.getElem_ofFn]
    split
  · rfl
  · rfl
  · exact post_enabled ..
  · rfl
  · exact ⟨_, rfl⟩
  · exact ⟨[], List.append_nil _⟩

/-- An offer leaves of every host all but its queue's tail and counts (R15, R16). -/
theorem HostKept.of_offer (s : State) (o : Offer) (g : HostId) : HostKept g s (s.offer o).1 := by
  rcases offer_cases s o with ⟨_, e⟩ | ⟨_, _, _, e⟩ | ⟨_, _, _, e⟩ | ⟨_, _, _, _, e⟩ | ⟨_, _, _, _, e⟩ <;> rw [e]
  · exact .refl g s
  · exact .refl g s
  · exact { HostKept.of_chargeMisses s (s.routing o) g with }
  · exact .of_chargeMisses ..
  · exact (HostKept.of_chargeMisses ..).trans (.of_create ..)

theorem Undisturbed.of_offer (s : State) (o : Offer) : Undisturbed h s (s.offer o).1 := by
  have hosts : ∀ g, g ≠ h → HostKept g s (s.offer o).1 := fun g _ => .of_offer s o g
  refine ⟨?_, ?_, ?_, ?_, hosts, by rw [offer_frame], by rw [offer_frame]⟩
  · intros; rw [offer_outputs]
  · intros; rw [offer_outputs]
  · intros; rw [offer_lines]
  · intros; rw [offer_watches]

/-- The removal of the caller's oldest entries (R24, R48). -/
theorem removeOldest_undisturbed (s : State) (h : HostId) (n : Nat) :
    Undisturbed h s (s.removeOldest h n) := by
  have head : ∀ u : State, Undisturbed h u (u.removeHead h) := by
    intro u
    unfold State.removeHead
    split
    · exact .refl h u
    · exact (Undisturbed.of_setQueue _).trans
        (.of_losesRefs (removeHolder_losesRefs _ _ h) (removeHolder_frame ..))
  induction n generalizing s with
  | zero => exact .refl h s
  | succ n ih => exact (head s).trans (ih _)

theorem Undisturbed.of_foldl {α : Type} {f : State → α → State} (each : ∀ u x, Undisturbed h u (f u x))
    (xs : List α) (s : State) : Undisturbed h s (xs.foldl f s) := by
  induction xs generalizing s with
  | nil => exact .refl h s
  | cons x xs ih => exact (each s x).trans (ih _)

theorem showRecord_undisturbed (s : State) (i : SlotId) : Undisturbed h s (s.showRecord i) :=
  .of_losesRefs (showRecord_losesRefs s i) (showRecord_frame s i)

theorem dropFoldRefs_undisturbed (s : State) (l : LineId) : Undisturbed h s (s.dropFoldRefs l) := by
  have one : ∀ (u : State) k, Undisturbed h u (u.dropFoldRef l k) := fun u k =>
    .of_losesRefs (dropFoldRef_losesRefs u l k) (dropFoldRef_frame u l k)
  exact (one s .rise).trans (one _ .fall)

/-- A vector changed element by element, read at one. -/
theorem map_getElem {α β : Type} {n : Nat} (f : α → β) (v : Vector α n) (i : Fin n) :
    (v.map f)[i] = f v[i] := by
  simp

/-- What the blocks give back at the session end of host `h` was its own, but for its places in notify
sets (R112). -/
theorem teardown_undisturbed (s : State) (h : HostId) : Undisturbed h s (s.teardown h) := by
  refine (removeOldest_undisturbed s h s.queues[h].entries.length).trans ?_
  have notMine : ∀ {g : HostId} {owner : Option HostId}, owner = some g → g ≠ h → owner ≠ some h := by
    rintro g _ rfl other e
    exact other (Option.some.inj e)
  constructor
  case outputs =>
    intro o g owner other
    exact (map_getElem ..).trans (if_neg (notMine owner other))
  case safe =>
    intro o
    rw [State.teardown, map_getElem]
    split <;> rfl
  case lines =>
    intro l g owner other
    have kept := (map_getElem (fun x : Line => if x.owner = some h then { x with owner := none } else x)
      (s.removeOldest h s.queues[h].entries.length).lines l).trans (if_neg (notMine owner other))
    rw [State.teardown, kept]
  case watches =>
    intro w g used owner other
    have left : ∀ x : Watch, x.owner ≠ some h → x.leave h = { x with notify := (x.leave h).notify } := by
      intro x kept
      rw [Watch.leave, if_neg kept]
    rw [State.teardown, map_getElem]
    exact left _ (notMine owner other)
  case hosts =>
    intro g other
    have queue := set_getElem_other (s.removeOldest h s.queues[h].entries.length).queues
      { entries := [], pendingMisses := 0, missedTotal := 0, threshold := 1 } other
    exact
      { session := rfl
        subscription := set_getElem_other _ _ other
        port := rfl
        threshold := congrArg Queue.threshold queue
        enabled := congrArg Attention.enabled (set_getElem_other _ _ other)
        entries := by rw [State.teardown, queue] }
  case hubTime => rfl
  case epoch => rfl

theorem endSession_undisturbed (s : State) (h : HostId) (c : EndCause) :
    Undisturbed h s (s.endSession h c) :=
  ((Undisturbed.of_setSession _).trans (teardown_undisturbed _ h)).trans (.of_offer ..)

end Sys2Proof.Machine
end

section
/-!
CLAIM. No request of an ORDINARY host disturbs what another host owns (O60).
-/

namespace Sys2Proof.Machine

variable {s t : State}

/-! ### Checks over sets -/

theorem anyLine_iff (s : State) (named : LineSet) (p : Line → Bool) :
    s.anyLine named p = true ↔ ∃ l : LineId, holds named l = true ∧ p s.lines[l] = true := by
  simp [State.anyLine]

theorem anyOutput_iff (s : State) (outs : OutputSet) (p : Output → Bool) :
    s.anyOutput outs p = true ↔ ∃ o : OutputId, holds outs o = true ∧ p s.outputs[o] = true := by
  simp [State.anyOutput]

/-- What no line of a set satisfies. -/
theorem anyLine_absent {named : LineSet} {p : Line → Bool} (absent : ¬ s.anyLine named p = true) {l : LineId}
    (member : holds named l = true) : p s.lines[l] = false :=
  Bool.eq_false_iff.mpr fun found => absent ((anyLine_iff ..).mpr ⟨l, member, found⟩)

/-- What no output of a set satisfies. -/
theorem anyOutput_absent {outs : OutputSet} {p : Output → Bool} (absent : ¬ s.anyOutput outs p = true)
    {o : OutputId} (member : holds outs o = true) : p s.outputs[o] = false :=
  Bool.eq_false_iff.mpr fun found => absent ((anyOutput_iff ..).mpr ⟨o, member, found⟩)

theorem freeWatch?_free {w : WatchId} (found : s.freeWatch? = some w) : s.watches[w].state = .free := by
  simpa using List.find?_some found

/-! ### Requests of an ORDINARY host -/

/-- A request behind the session stage leaves the other hosts what its reply leaves them (R140). -/
theorem Undisturbed.of_ifAttached {rq : Request} {k : Reply} (taken : Undisturbed rq.host s k.state) :
    Undisturbed rq.host s (ifAttached rq s k).state :=
  ifAttached_state (p := Undisturbed rq.host s) (.refl _ s) taken

/-- The requests that only report. -/
theorem reporting_undisturbed {command : Request → State → Reply}
    (listed : command ∈ [hubStatusReply, readTimeReply, unknownReply, readSubscriptionsReply,
      lineStatusReply, watchReadReply, outStatusReply]) (rq : Request) (s : State) :
    Undisturbed rq.host s (command rq s).state := by
  simp only [List.mem_cons, List.not_mem_nil, or_false] at listed
  rcases listed with rfl | rfl | rfl | listed
  · unfold hubStatusReply; split <;> exact .refl _ s
  · unfold readTimeReply; split <;> exact .refl _ s
  · exact .refl _ s
  rcases listed with rfl | rfl | rfl | rfl
  all_goals
    refine .of_ifAttached ?_
    repeat' split
    all_goals exact .refl _ s

/-- The requests that an ORDINARY host is refused, past the checks of their payload (R139). -/
theorem supervisorOnly_undisturbed {command : Request → State → Reply} {rq : Request}
    (listed : command ∈ [evictReply, restartHubReply, adjustTimeReply, outSeizeReply, outSafeReply])
    (ordinary : s.isSupervisor rq.host = false) : Undisturbed rq.host s (command rq s).state := by
  simp only [List.mem_cons, List.not_mem_nil, or_false] at listed
  rcases listed with rfl | rfl | rfl | rfl | rfl
  all_goals
    refine .of_ifAttached ?_
    simp only [ordinary, if_true]
    repeat' split
    all_goals exact .refl _ s

/-- The requests on the session and on the caller's own subscriptions, queue and attention. -/
theorem own_undisturbed {command : Request → State → Reply}
    (listed : command ∈ [detachReply, subscribeLinesReply, subscribeHubReply, readEventsReply,
      ackEventsReply, queueStatusReply, setAttentionReply, clearAttentionReply])
    (rq : Request) (s : State) : Undisturbed rq.host s (command rq s).state := by
  simp only [List.mem_cons, List.not_mem_nil, or_false] at listed
  rcases listed with rfl | rfl | rfl | rfl | rfl | rfl | rfl | rfl
  all_goals
    refine .of_ifAttached ?_
    try dsimp only
    repeat' split
    all_goals try exact .refl _ s
  · exact endSession_undisturbed ..
  · exact .of_setSubscription _
  · exact .of_setSubscription _
  · exact .of_foldl (fun u (e : Entry) => showRecord_undisturbed u e.slot) _ s
  · exact removeOldest_undisturbed ..
  · exact .of_setQueue _
  · exact (Undisturbed.of_setAttention _).trans (.of_setQueue _)
  · exact .of_setAttention _

theorem attach_undisturbed (rq : Request) (s : State) :
    Undisturbed rq.host s (attachReply rq s).state := by
  unfold attachReply
  split
  · exact .refl _ s
  split
  · exact ((Undisturbed.of_setSession _).trans (.of_setAttention _)).trans (.of_offer ..)
  · exact .refl _ s

theorem sendNote_undisturbed (rq : Request) (s : State) :
    Undisturbed rq.host s (sendNoteReply rq s).state := by
  refine .of_ifAttached ?_
  dsimp only
  repeat' split
  case h_2.isFalse.isFalse =>
    unfold noteReply
    split
    · exact .refl _ s
    · exact .refl _ s
    · exact .of_offer ..
    · exact .of_offer ..
  all_goals exact .refl _ s

/-! ### Lines -/

/-- The owner of a line that has no other owner than the caller. -/
theorem owner_of_not_ownedByOther {x : Line} {h g : HostId} (mine : x.ownedByOther h = false)
    (owner : x.owner = some g) : g = h := by
  simpa [Line.ownedByOther, owner] using mine

/-- Past the checks of LINE_ARM and LINE_RELEASE an ORDINARY caller owns the whole set (R68). -/
theorem lineSetCheck_own {rq : Request} {named : LineSet} (ordinary : s.isSupervisor rq.host = false)
    (passed : lineSetCheck rq s named = none) {l : LineId} (member : holds named l = true) :
    s.lines[l].owner = some rq.host := by
  unfold lineSetCheck at passed
  split at passed
  · cases passed
  split at passed
  · cases passed
  rename_i own
  rw [ordinary, Bool.not_false, Bool.and_true] at own
  simpa using anyLine_absent own member

theorem lineConfigure_undisturbed {rq : Request} (ordinary : s.isSupervisor rq.host = false) :
    Undisturbed rq.host s (lineConfigureReply rq s).state := by
  refine .of_ifAttached ?_
  repeat' split
  case h_1.isFalse.isFalse =>
    rename_i l _ _ _ _ _ _ _ allowed _
    rw [ordinary, Bool.not_false, Bool.and_true, Bool.not_eq_true] at allowed
    refine (dropFoldRefs_undisturbed s l).trans (.of_setLine fun g owner => ?_)
    rw [(dropFoldRefs_losesRefs s l l).rest] at owner
    exact owner_of_not_ownedByOther allowed owner
  all_goals exact .refl _ s

theorem lineArm_undisturbed {rq : Request} (ordinary : s.isSupervisor rq.host = false) :
    Undisturbed rq.host s (lineArmReply rq s).state := by
  refine .of_ifAttached ?_
  split
  · split
    · exact .refl _ s
    · rename_i passed
      exact Undisturbed.of_mapLines (f := fun x => { x with state := .armed }) fun l member g owner =>
        (Option.some.inj ((lineSetCheck_own ordinary passed member).symm.trans owner)).symm
  · exact .refl _ s

theorem lineDisarm_undisturbed {rq : Request} (ordinary : s.isSupervisor rq.host = false) :
    Undisturbed rq.host s (lineDisarmReply rq s).state := by
  refine .of_ifAttached ?_
  dsimp only
  repeat' split
  case h_1.isFalse.isFalse.isFalse =>
    rename_i allowed _
    rw [ordinary, Bool.not_false, Bool.and_true] at allowed
    exact .of_mapLines fun l member g owner => owner_of_not_ownedByOther (anyLine_absent allowed member) owner
  all_goals exact .refl _ s

theorem lineRelease_undisturbed {rq : Request} (ordinary : s.isSupervisor rq.host = false) :
    Undisturbed rq.host s (lineReleaseReply rq s).state := by
  refine .of_ifAttached ?_
  split
  · split
    · exact .refl _ s
    · rename_i hi lo _ _ passed
      refine (Undisturbed.of_foldl dropFoldRefs_undisturbed (members (half hi lo)) s).trans
        (.of_mapLines fun l member g owner => ?_)
      have same := (LosesRefs.of_foldl dropFoldRefs_losesRefs (members (half hi lo)) s l).rest
      rw [same] at owner
      exact (Option.some.inj ((lineSetCheck_own ordinary passed member).symm.trans owner)).symm
  · exact .refl _ s

/-! ### Watch entries -/

theorem watchInstall_undisturbed (rq : Request) (s : State) :
    Undisturbed rq.host s (watchInstallReply rq s).state := by
  refine .of_ifAttached ?_
  split
  · exact .refl _ s
  split
  · exact .refl _ s
  · rename_i found
    exact .of_setWatch fun used => absurd (freeWatch?_free found) used

theorem watchCancel_undisturbed {rq : Request} (ordinary : s.isSupervisor rq.host = false) :
    Undisturbed rq.host s (watchCancelReply rq s).state := by
  refine .of_ifAttached ?_
  dsimp only
  repeat' split
  case h_2.isFalse.isFalse =>
    rename_i allowed _
    refine .of_setWatch fun used g owner => ?_
    by_contra other
    exact allowed ⟨used, fun mine => other (Option.some.inj (owner.symm.trans mine)), ordinary⟩
  all_goals exact .refl _ s

/-! ### Outputs -/

theorem outClaim_undisturbed (rq : Request) (s : State) :
    Undisturbed rq.host s (outClaimReply rq s).state := by
  refine .of_ifAttached ?_
  repeat' split
  case h_1.isFalse.isFalse =>
    refine .of_mapOutputs (f := fun _ o => o.claim rq.host) (fun o _ g owner _ => ?_) fun _ x => ?_
    · rw [Output.claim, owner]
    · unfold Output.claim; split <;> rfl
  all_goals exact .refl _ s

/-- An output of a set that the caller owns whole. -/
theorem owner_of_anyOutput {outs : OutputSet} {h : HostId}
    (own : ¬ s.anyOutput outs (fun o => o.owner != some h) = true) {o : OutputId}
    (member : holds outs o = true) : s.outputs[o].owner = some h := by
  simpa using anyOutput_absent own member

theorem outRelease_undisturbed (rq : Request) (s : State) :
    Undisturbed rq.host s (outReleaseReply rq s).state := by
  refine .of_ifAttached ?_
  repeat' split
  case h_1.isFalse.isFalse =>
    rename_i own
    refine .of_mapOutputs (f := fun _ o => o.release) (fun o member g owner other => absurd ?_ other)
      fun _ _ => rfl
    exact (Option.some.inj ((owner_of_anyOutput own member).symm.trans owner)).symm
  all_goals exact .refl _ s

theorem outDrive_undisturbed (rq : Request) (s : State) :
    Undisturbed rq.host s (outDriveReply rq s).state := by
  refine .of_ifAttached ?_
  repeat' split
  case h_1.isFalse.isFalse.isFalse =>
    rename_i outs levels _ _ own _
    refine .of_mapOutputs (f := fun i o => { o with drive := Level.ofBit (holds levels i) })
      (fun o member g owner other => absurd ?_ other) fun _ _ => rfl
    exact (Option.some.inj ((owner_of_anyOutput own member).symm.trans owner)).symm
  all_goals exact .refl _ s

/-- The requests on one output that the caller must own. -/
theorem oneOutput_undisturbed {command : Request → State → Reply}
    (listed : command ∈ [outPulseReply, outBindReply, outUnbindReply]) (rq : Request) (s : State) :
    Undisturbed rq.host s (command rq s).state := by
  simp only [List.mem_cons, List.not_mem_nil, or_false] at listed
  rcases listed with rfl | rfl | rfl
  all_goals
    refine .of_ifAttached ?_
    try dsimp only
    repeat' split
    all_goals try exact .refl _ s
  · rename_i own _
    exact .of_setOutput (not_not.mp own) rfl
  · rename_i own
    exact .of_setOutput (not_not.mp own) rfl
  · rename_i own
    exact .of_setOutput (not_not.mp own) rfl

/-! ### Every request -/

theorem commandOf_undisturbed (code : Byte) {rq : Request} (ordinary : s.isSupervisor rq.host = false) :
    Undisturbed rq.host s (commandOf code rq s).state := by
  change (fun command : Request → State → Reply => Undisturbed rq.host s (command rq s).state)
    (commandOf code)
  unfold commandOf
  split
  case h_1 => exact attach_undisturbed rq s
  case h_2 | h_9 | h_10 | h_12 | h_13 | h_14 | h_32 | h_33 => exact own_undisturbed (by simp) rq s
  case h_6 => exact sendNote_undisturbed rq s
  case h_15 => exact lineConfigure_undisturbed ordinary
  case h_16 => exact lineArm_undisturbed ordinary
  case h_17 => exact lineDisarm_undisturbed ordinary
  case h_18 => exact lineRelease_undisturbed ordinary
  case h_20 => exact watchInstall_undisturbed rq s
  case h_21 => exact watchCancel_undisturbed ordinary
  case h_23 => exact outClaim_undisturbed rq s
  case h_24 => exact outRelease_undisturbed rq s
  case h_25 => exact outDrive_undisturbed rq s
  case h_26 | h_27 | h_28 => exact oneOutput_undisturbed (by simp) rq s
  case h_3 | h_4 | h_8 | h_29 | h_30 => exact supervisorOnly_undisturbed (by simp) ordinary
  all_goals exact reporting_undisturbed (by simp) rq s

theorem takeFrame_undisturbed {h : HostId} (code tag : Byte) (payload : List Byte)
    (ordinary : s.isSupervisor h = false) : Undisturbed h s (s.takeFrame h code tag payload) := by
  unfold State.takeFrame
  split
  · rw [State.takeRepeat, restartTimer_eq]
    exact (restarted_undisturbed s h).trans (.of_setPort _)
  · rw [take_eq]
    have ordinary' : (s.restarted h).isSupervisor h = false := by rw [restarted_isSupervisor]; exact ordinary
    exact ((restarted_undisturbed s h).trans
      (commandOf_undisturbed code (rq := ⟨h, s.hubTime, payload⟩) ordinary')).trans (.of_setPort _)

/-- Settles O60: a request is the taking of its frame, and that leaves the other hosts undisturbed. -/
theorem ordinaryHostsCannotDisturbOthers : Obligations.OrdinaryHostsCannotDisturbOthers := by
  intro i f s t frame e privilege
  have ordinary : s.isSupervisor f.host = false := by
    rw [State.isSupervisor, privilege]; rfl
  rw [exec_request frame] at e
  split at e <;> cases e
  obtain ⟨outputs, safe, lines, watches, hosts, hubTime, epoch⟩ :=
    takeFrame_undisturbed f.code f.tag f.payload ordinary
  refine ⟨outputs, safe, lines, watches, fun g other => ?_, hubTime, epoch⟩
  obtain ⟨session, subscription, port, threshold, enabled, entries⟩ := hosts g other
  exact ⟨session, subscription, port, threshold, enabled, entries⟩

end Sys2Proof.Machine
end

section
/-!
CLAIM. TICK counts hub time and hands the tick to every measure of elapsed time (O21).
-/

namespace Sys2Proof.Machine

variable {s : State}

/-! ### TICK (R60, R83, R90, R91) -/

theorem handTick_line (s : State) (levels : LineSet) (l : LineId) :
    (s.handTick levels).lines[l] = s.lines[l].tick := map_getElem ..

theorem handTick_watch (s : State) (levels : LineSet) (w : WatchId) :
    (s.handTick levels).watches[w] = s.watches[w].tick := map_getElem ..

theorem handTick_output (s : State) (levels : LineSet) (o : OutputId) :
    (s.handTick levels).outputs[o] = s.outputs[o].tick := map_getElem ..

theorem handTick_session (s : State) (levels : LineSet) (h : HostId) :
    (s.handTick levels).sessions[h] = s.sessions[h].tick := map_getElem ..

theorem handTick_port (s : State) (levels : LineSet) (h : HostId) :
    (s.handTick levels).ports[h] = s.ports[h].tick := map_getElem ..

/-- A tick counts the ticks to next check of an entry in use alone (R99). -/
theorem watch_tick_eq (w : Watch) :
    w.tick = { w with ticks := if w.state = .free then w.ticks else w.ticks - 1 } := by
  unfold Watch.tick
  split <;> rfl

/-- A tick counts the age of an answer alone (R181). -/
theorem port_tick_eq (p : Port) : p.tick = { p with
    receiver := match p.receiver with
      | .answering ready rest age => .answering ready rest (age + 1)
      | r => r } := by
  obtain ⟨_, receiver, _, _, _, _⟩ := p
  cases receiver <;> rfl

theorem mayTick_iff (s : State) : s.mayTick = true ↔ s.eventsDue = false ∧ s.countOwed = false := by
  simp [State.mayTick]

/-- A whole tick, once nothing of the tick before is left: its count is left owed at the largest hub time
(R83, R84). -/
theorem tick_whole (may : s.mayTick = true) (levels : LineSet) :
    exec (.tick (.whole levels)) s = .next (if s.hubTime = lastHubTime then s.handOut levels
      else { s.handOut levels with hubTime := s.hubTime + 1#32, countOwed := false }) := by
  change execTick (.whole levels) s = _
  simp only [execTick, may, Bool.true_eq_false, if_false]
  split <;> rfl

/-- A tick handed out leaves its count owed (R90). -/
theorem tick_handedOut (may : s.mayTick = true) (levels : LineSet) :
    exec (.tick (.handedOut levels)) s = .next (s.handOut levels) := by
  change execTick (.handedOut levels) s = _
  simp only [execTick, may, Bool.true_eq_false, if_false]

/-- Settles O21: the tick handed out, field by field, and the count that makes it whole. -/
theorem tickCountsEveryMeasure : Obligations.TickCountsEveryMeasure := by
  refine ⟨fun levels s idle counted => ?_, fun s owed notLast => ?_⟩
  · have may : s.mayTick = true := (mayTick_iff s).mpr ⟨idle, counted⟩
    refine ⟨s.handOut levels, tick_handedOut may levels, tick_whole may levels, rfl, fun l => ?line,
      fun w => ?watch, fun o => ?output, fun h => ⟨?session, ?port⟩⟩
    case line => exact handTick_line s levels l
    case watch => exact (handTick_watch s levels w).trans (watch_tick_eq _)
    case output => exact handTick_output s levels o
    case session => exact handTick_session s levels h
    case port => exact (handTick_port s levels h).trans (port_tick_eq _)
  · change execTick .counted s = _
    have last : (s.hubTime != lastHubTime) = true := bne_iff_ne.mpr notLast
    simp only [execTick, owed, last, Bool.and_true, if_true]
    rfl

end Sys2Proof.Machine
end

section
/-!
CLAIM. A command for an event that cannot come is refused by name (O13).
-/

namespace Sys2Proof.Machine

variable {s : State}

/-! ### Requests and frames (R174 to R179, R183) -/

/-- A request row whose frame is not awaited (R174). -/
theorem request_refused {i : Instr} {f : RequestFrame} (frame : i.frame? = some f)
    (notAwaited : s.awaits i = false) : exec i s = .refused .frameNotReceived := by
  have port : s.ports[f.host].awaitsCrc f.code f.tag f.payload = false := by
    simpa only [State.awaits, frame] using notAwaited
  rw [exec_request frame, port, Bool.and_false]
  rfl

/-- A frame is complete once it holds its length byte and as many bytes as that names (R175). -/
theorem frameComplete_iff (bytes : List Byte) :
    frameComplete bytes = true ↔ ∃ length ∈ bytes[2]?, 3 + length.toNat ≤ bytes.length := by
  match bytes with
  | [] | [_] | [_, _] => simp [frameComplete]
  | _ :: _ :: length :: rest => simp [frameComplete]; omega

/-- No frame error comes outside RECEIVING (R179). -/
theorem frameError_refused {h : HostId} (idle : ∀ bytes running, s.ports[h].receiver ≠ .receiving bytes running)
    (crc : Byte) : exec (.frameError h crc) s = .refused .frameNotReceived := by
  change execFrameError h crc s = _
  unfold execFrameError
  split
  · rename_i receiving; exact absurd receiving (idle _ _)
  · rfl

/-- No frame error comes with the right CRC, or before the frame is complete (R179). -/
theorem frameError_refused_receiving {h : HostId} {bytes : List Byte} {running crc : Byte}
    (receiving : s.ports[h].receiver = .receiving bytes running)
    (early : crc = running ∨ frameComplete bytes = false) :
    exec (.frameError h crc) s = .refused .frameNotReceived := by
  change execFrameError h crc s = _
  unfold execFrameError
  rw [receiving]
  rcases early with rfl | incomplete
  · simp
  · simp [incomplete]

/-- No length is refused but a third byte above 200 (R176). -/
theorem frameRefusedForLength_refused {h : HostId} {length : Byte}
    (other : ∀ a b running, s.ports[h].receiver = .receiving [a, b] running → length.toNat ≤ maxPayload) :
    exec (.frameRefusedForLength h length) s = .refused .cannotReachPort := by
  change execFrameRefusedForLength h length s = _
  unfold execFrameRefusedForLength
  split
  · rename_i third
    rw [if_neg (Nat.not_lt.mpr (other _ _ _ third))]
  · rfl

/-- No frame is discarded before a byte of it has completed (R177). -/
theorem frameDiscarded_refused {h : HostId} (empty : s.ports[h].midFrame = false) :
    exec (.frameDiscarded h) s = .refused .cannotReachPort := by
  change execFrameDiscarded h s = _
  rw [execFrameDiscarded, empty]
  rfl

theorem midFrame_idle {p : Port} (idle : ∀ bytes running, p.receiver ≠ .receiving bytes running) :
    p.midFrame = false := by
  unfold Port.midFrame
  split
  · rename_i receiving; exact absurd receiving (idle _ _)
  · rfl

/-- No response ends outside ANSWERING (R174). -/
theorem responseSent_refused {h : HostId}
    (idle : ∀ ready rest age, s.ports[h].receiver ≠ .answering ready rest age) :
    exec (.responseSent h) s = .refused .cannotReachPort := by
  change execResponseSent h s = _
  unfold execResponseSent
  split
  · rename_i answering; exact absurd answering (idle _ _ _)
  · rfl

/-! ### Ticks (R83, R84, log 4) -/

/-- No tick comes while something of the tick before is left. -/
theorem tick_refused (left : s.eventsDue = true ∨ s.countOwed = true) (levels : LineSet) :
    exec (.tick (.whole levels)) s = .refused .eventsDue ∧
    exec (.tick (.handedOut levels)) s = .refused .eventsDue := by
  have may : s.mayTick = false := by
    rw [← Bool.not_eq_true, mayTick_iff]
    rintro ⟨idle, counted⟩
    rw [idle, counted] at left
    simp at left
  exact ⟨if_pos may, if_pos may⟩

theorem counted_refused (early : s.countOwed = false ∨ s.hubTime = lastHubTime) :
    exec (.tick .counted) s = .refused .notDue := by
  change execTick .counted s = _
  rcases early with counted | last
  · simp [execTick, counted]
  · simp [execTick, last]

/-! ### Lines (R60 to R62) -/

/-- The level of a bit that is set exactly at HIGH. -/
theorem ofBit_eq {b : Bool} {x : Level} (same : b = true ↔ x = .high) : Level.ofBit b = x := by
  cases b <;> cases x <;> simp [Level.ofBit] at same ⊢

theorem other_eq_high {x : Level} : x.other = .high ↔ x = .low := by cases x <;> decide

theorem other_ne (x : Level) : x.other ≠ x := by cases x <;> decide

/-- The sample shows the settled level. -/
theorem rawLevel_settled {l : LineId} (same : holds s.sample l = true ↔ s.lines[l].settled = .high) :
    s.rawLevel l = s.lines[l].settled := ofBit_eq same

/-- The sample shows the changed level. -/
theorem rawLevel_changed {l : LineId} (other : holds s.sample l = true ↔ s.lines[l].settled = .low) :
    s.rawLevel l ≠ s.lines[l].settled := by
  have level : s.rawLevel l = s.lines[l].settled.other := ofBit_eq (other.trans other_eq_high.symm)
  rw [level]
  exact other_ne _

theorem startDue_iff (s : State) (l : LineId) : s.startDue l = true ↔
    s.lines[l].qualification = none ∧ s.rawLevel l ≠ s.lines[l].settled := by
  simp [State.startDue]

theorem glitchDue_iff (s : State) (l : LineId) : s.glitchDue l = true ↔
    ∃ q, s.lines[l].qualification = some q ∧ 1 ≤ q.elapsed ∧ s.rawLevel l = s.lines[l].settled := by
  unfold State.glitchDue
  cases s.lines[l].qualification <;> simp

theorem edgeDue_iff (s : State) (l : LineId) : s.edgeDue l = true ↔
    ∃ q, s.lines[l].qualification = some q ∧ q.filter.toNat ≤ q.elapsed ∧
      s.rawLevel l ≠ s.lines[l].settled := by
  unfold State.edgeDue
  cases s.lines[l].qualification <;> simp

theorem qualificationStart_refused {l : LineId} (early : ¬ s.startDue l = true) :
    exec (.qualificationStart l) s = .refused .notDue := if_neg early

theorem glitch_refused {l : LineId} (early : ¬ s.glitchDue l = true) :
    exec (.glitch l) s = .refused .notDue := if_neg early

/-- QUALIFIED_EDGE comes at the end of a qualification, or as a start with a filter time of 0 (R60, R62). -/
theorem qualifiedEdge_refused {l : LineId} (early : ¬ s.edgeDue l = true)
    (noStart : s.lines[l].filter = 0#12 → ¬ s.startDue l = true) :
    exec (.qualifiedEdge l) s = .refused .notDue := by
  change execQualifiedEdge l s = _
  unfold execQualifiedEdge
  split
  · exact if_neg early
  · refine if_neg fun due => ?_
    obtain ⟨start, filter⟩ := Bool.and_eq_true_iff.mp due
    exact noStart (beq_iff_eq.mp filter) start

/-! ### Every refusal -/

/-- Settles O13, event by event. -/
theorem eventsThatCannotComeAreRefused : Obligations.EventsThatCannotComeAreRefused := by
  refine ⟨fun i f s frame => request_refused frame, fun h s byte => ⟨fun low => if_pos low, fun idle =>
      ⟨frameError_refused idle byte, ?length, frameDiscarded_refused (midFrame_idle idle)⟩,
      fun bytes running receiving => ⟨fun early => ?crc, fun other => ?third, fun empty => ?discard⟩,
      responseSent_refused⟩, fun h code tag payload s known => ?known,
    fun levels s => ⟨fun left => tick_refused left levels, counted_refused, fun last counted due => ?wrapDue,
      fun early => if_pos early⟩,
    fun l s same => ?settled, fun l s other => ?changed, fun l s resting => ?idle, fun l s q started => ?running,
    fun w s early => ?check, fun o s early => ?pulse, fun h s early => ?supervision⟩
  case length => exact frameRefusedForLength_refused fun a b running e => absurd e (idle _ _)
  case crc =>
    refine frameError_refused_receiving receiving (early.imp_right fun incomplete => ?_)
    rw [← Bool.not_eq_true, frameComplete_iff]
    rintro ⟨length, found, enough⟩
    rcases incomplete with short | ⟨length', found', few⟩
    · omega
    · obtain rfl : length = length' := Option.some.inj (found.symm.trans found')
      omega
  case third =>
    refine frameRefusedForLength_refused fun a b _ e => ?_
    rw [receiving] at e
    cases e
    exact other.resolve_left fun two => two rfl
  case discard =>
    refine frameDiscarded_refused ?_
    rw [Port.midFrame, receiving, empty]
    rfl
  case known => exact if_pos (List.contains_iff_mem.mpr known)
  case wrapDue =>
    change execTimeWrap levels s = _
    have last' : s.hubTime = lastHubTime := last
    simp [execTimeWrap, last', counted, due]
  case settled =>
    have level := rawLevel_settled same
    have noStart : ¬ s.startDue l = true := fun due => ((startDue_iff s l).mp due).2 level
    refine ⟨qualificationStart_refused noStart, qualifiedEdge_refused (fun due => ?_) fun _ => noStart⟩
    obtain ⟨_, _, _, changed⟩ := (edgeDue_iff s l).mp due
    exact changed level
  case changed =>
    refine glitch_refused fun due => ?_
    obtain ⟨_, _, _, level⟩ := (glitchDue_iff s l).mp due
    exact rawLevel_changed other level
  case idle =>
    have noGlitch : ¬ s.glitchDue l = true := by
      rw [glitchDue_iff, resting]; simp
    have noEdge : ¬ s.edgeDue l = true := by
      rw [edgeDue_iff, resting]; simp
    exact ⟨glitch_refused noGlitch, fun filter => qualifiedEdge_refused noEdge fun zero => absurd zero filter⟩
  case running =>
    have noStart : ¬ s.startDue l = true := by
      rw [startDue_iff, started]; simp
    refine ⟨qualificationStart_refused noStart, fun atStart => glitch_refused fun due => ?_,
      fun few => qualifiedEdge_refused (fun due => ?_) fun _ => noStart⟩
    · obtain ⟨q', found, later, _⟩ := (glitchDue_iff s l).mp due
      obtain rfl : q = q' := Option.some.inj (started.symm.trans found)
      omega
    · obtain ⟨q', found, enough, _⟩ := (edgeDue_iff s l).mp due
      obtain rfl : q = q' := Option.some.inj (started.symm.trans found)
      omega
  case check =>
    refine if_neg fun due => ?_
    rw [Watch.checkDue, Bool.and_eq_true, bne_iff_ne, beq_iff_eq] at due
    rcases early with free | ticks
    · exact due.1 free
    · exact ticks due.2
  case pulse =>
    change execPulseExpiry o s = _
    unfold execPulseExpiry
    split
    · rfl
    · rename_i p pulse
      rw [early p pulse]
      rfl
  case supervision =>
    refine if_neg fun due => ?_
    rw [Session.expiryDue, Bool.and_eq_true, beq_iff_eq, Option.any_eq_true] at due
    obtain ⟨attached, c, timer, expired⟩ := due
    rcases early with away | running
    · exact away attached
    · rw [running c timer] at expired
      cases expired

end Sys2Proof.Machine
end

section
/-!
CLAIM. The requests over sets of lines: LINE_ARM, LINE_RELEASE and LINE_DISARM (O33, O34).
-/

namespace Sys2Proof.Machine

variable {s : State}

/-! ### Checks over a set of lines -/

theorem restarted_anyLine (s : State) (h : HostId) : (s.restarted h).anyLine = s.anyLine := by
  unfold State.anyLine
  rw [restarted_lines]

theorem ordinary_iff (s : State) (h : HostId) :
    (!s.isSupervisor h) = true ↔ s.sessions[h].privilege = .ordinary := by
  unfold State.isSupervisor
  cases s.sessions[h].privilege <;> decide

/-- Some line of the set is not the caller's own, who is no SUPERVISOR (R68). -/
theorem notOwner_iff (s : State) (named : LineSet) (h : HostId) :
    ((s.anyLine named fun l => l.owner != some h) && !s.isSupervisor h) = true ↔
      (∃ l : LineId, holds named l = true ∧ s.lines[l].owner ≠ some h) ∧
        s.sessions[h].privilege = .ordinary := by
  simp only [Bool.and_eq_true, anyLine_iff, bne_iff_ne, ordinary_iff]

/-- Some line of the set is another host's, and the caller is no SUPERVISOR (R66). -/
theorem othersLine_iff (s : State) (named : LineSet) (h : HostId) :
    ((s.anyLine named fun l => l.ownedByOther h) && !s.isSupervisor h) = true ↔
      (∃ (l : LineId) (g : HostId), holds named l = true ∧ s.lines[l].owner = some g ∧ g ≠ h) ∧
        s.sessions[h].privilege = .ordinary := by
  have other : ∀ x : Line, x.ownedByOther h = true ↔ ∃ g, x.owner = some g ∧ g ≠ h := by
    intro x
    unfold Line.ownedByOther
    cases x.owner <;> simp
  simp only [Bool.and_eq_true, anyLine_iff, other, ordinary_iff, exists_and_left]

/-! ### LINE_ARM and LINE_RELEASE (R68) -/

/-- The shared checks of a request read nothing of the caller's timer. -/
theorem lineSetCheck_restarted (rq : Request) (s : State) (named : LineSet) :
    lineSetCheck rq (s.restarted rq.host) named = lineSetCheck rq s named := by
  simp only [lineSetCheck, restarted_anyLine, restarted_isSupervisor]

/-- The shared checks, stage by stage (R68, R182). -/
theorem lineSetCheck_eq (rq : Request) (s : State) (named : LineSet) :
    lineSetCheck rq s named =
      if named = 0#16 then some .badArg
      else if (∃ l : LineId, holds named l = true ∧ s.lines[l].owner ≠ some rq.host) ∧
          s.sessions[rq.host].privilege = .ordinary then some .notOwner
      else if ∃ l : LineId, holds named l = true ∧ s.lines[l].state ≠ .disarmed then some .badState
      else none := by
  simp only [lineSetCheck, notOwner_iff, anyLine_iff, bne_iff_ne]

/-- A set of lines that a check refuses is refused by both requests. -/
theorem lineSet_refused {i : Instr} {h : HostId} {tag hi lo : Byte} {status : Status}
    (member : i ∈ [Instr.lineArm h tag [hi, lo], .lineRelease h tag [hi, lo]])
    (awaits : s.awaits i = true) (attached : s.isAttached h = true)
    (check : lineSetCheck ⟨h, s.hubTime, [hi, lo]⟩ s (half hi lo) = some status) :
    Refuses i s status := by
  rw [← lineSetCheck_restarted] at check
  simp only [List.mem_cons, List.not_mem_nil, or_false] at member
  rcases member with rfl | rfl
  · have answers := attached_answers (i := .lineArm h tag [hi, lo]) (command := lineArmReply) rfl rfl
      (fun _ _ => rfl) awaits attached
    dsimp only at answers
    rw [check] at answers
    exact answers
  · have answers := attached_answers (i := .lineRelease h tag [hi, lo]) (command := lineReleaseReply)
      rfl rfl (fun _ _ => rfl) awaits attached
    dsimp only at answers
    rw [check] at answers
    exact answers

/-- A payload that is no set of lines is refused by both requests. -/
theorem lineSet_illFormed {i : Instr} {h : HostId} {tag : Byte} {payload : List Byte}
    (member : i ∈ [Instr.lineArm h tag payload, .lineRelease h tag payload])
    (awaits : s.awaits i = true) (attached : s.isAttached h = true)
    (other : ∀ hi lo, payload ≠ [hi, lo]) : Refuses i s .badArg := by
  simp only [List.mem_cons, List.not_mem_nil, or_false] at member
  rcases member with rfl | rfl
  · have answers := attached_answers (i := .lineArm h tag payload) (command := lineArmReply) rfl rfl
      (fun _ _ => rfl) awaits attached
    dsimp only at answers
    split at answers
    · exact absurd rfl (other _ _)
    · exact answers
  · have answers := attached_answers (i := .lineRelease h tag payload) (command := lineReleaseReply)
      rfl rfl (fun _ _ => rfl) awaits attached
    dsimp only at answers
    split at answers
    · exact absurd rfl (other _ _)
    · exact answers

/-- What LINE_ARM makes of a set of lines that passes the checks. -/
theorem lineArm_answers {h : HostId} {tag hi lo : Byte}
    (awaits : s.awaits (.lineArm h tag [hi, lo]) = true) (attached : s.isAttached h = true)
    (check : lineSetCheck ⟨h, s.hubTime, [hi, lo]⟩ s (half hi lo) = none) :
    Answers (.lineArm h tag [hi, lo]) s
      ((s.restarted h).mapLines (half hi lo) fun l => { l with state := .armed }) .ok [] := by
  have answers := attached_answers (i := .lineArm h tag [hi, lo]) (command := lineArmReply) rfl rfl
    (fun _ _ => rfl) awaits attached
  dsimp only at answers
  rw [← lineSetCheck_restarted] at check
  rw [check] at answers
  exact answers

/-- What LINE_RELEASE makes of a set of lines that passes the checks. -/
theorem lineRelease_answers {h : HostId} {tag hi lo : Byte}
    (awaits : s.awaits (.lineRelease h tag [hi, lo]) = true) (attached : s.isAttached h = true)
    (check : lineSetCheck ⟨h, s.hubTime, [hi, lo]⟩ s (half hi lo) = none) :
    Answers (.lineRelease h tag [hi, lo]) s
      (((s.restarted h).dropFoldRefsOf (half hi lo)).mapLines (half hi lo) Line.unconfigured) .ok [] := by
  have answers := attached_answers (i := .lineRelease h tag [hi, lo]) (command := lineReleaseReply)
    rfl rfl (fun _ _ => rfl) awaits attached
  dsimp only at answers
  rw [← lineSetCheck_restarted] at check
  rw [check] at answers
  exact answers

/-- A change of the lines of a set is a change of lines alone. -/
theorem mapLines_frame (s : State) (named : LineSet) (f : Line → Line) :
    s.mapLines named f = { s with lines := (s.mapLines named f).lines } := rfl

/-- The lines of a set released: their fold references and the records' fold targets among them go, and
the lines are UNSET with the default configuration (R68, R72). -/
theorem release_spec (law : s.FoldLaw) (named : LineSet) :
    let u := (s.dropFoldRefsOf named).mapLines named Line.unconfigured
    u = { s with slots := u.slots, lines := u.lines } ∧
    (∀ l : LineId, u.lines[l] = if holds named l then s.lines[l].unconfigured else s.lines[l]) ∧
    ∀ j : SlotId, u.slots[j] = s.slots[j].map fun r =>
      { r with foldTarget := r.foldTarget.filter fun target => !holds named target.1 } := by
  obtain ⟨frame, lines, slots, _⟩ := dropFoldRefs_spec law (members named)
  change s.dropFoldRefsOf named = _ at frame
  refine ⟨?_, fun l => ?_, fun j => ?_⟩
  · rw [frame]
    rfl
  · have line : (s.dropFoldRefsOf named).lines[l] = _ := lines l
    simp only [mapLines_getElem, line, mem_members]
    split <;> rfl
  · rw [mapLines_slots]
    have slot : (s.dropFoldRefsOf named).slots[j] = _ := slots j
    simp only [slot, mem_members, Bool.decide_eq_true]

/-- Settles O33: the checks in their order, then the whole set changed. -/
theorem lineArmAndReleaseActOnTheWholeSet : Obligations.LineArmAndReleaseActOnTheWholeSet := by
  intro h tag payload s attached law i member awaits
  rcases payload with _ | ⟨hi, _ | ⟨lo, _ | _⟩⟩
  case cons.cons.nil =>
    have check := lineSetCheck_eq ⟨h, s.hubTime, [hi, lo]⟩ s (hi ++ lo)
    dsimp only at check ⊢
    split
    · rename_i empty
      rw [if_pos empty] at check
      exact lineSet_refused member awaits attached check
    rename_i nonempty
    rw [if_neg nonempty] at check
    split
    · rename_i others
      rw [if_pos others] at check
      exact lineSet_refused member awaits attached check
    rename_i own
    rw [if_neg own] at check
    split
    · rename_i busy
      rw [if_pos busy] at check
      exact lineSet_refused member awaits attached check
    rename_i disarmed
    rw [if_neg disarmed] at check
    refine ⟨?_, ?_⟩
    · rintro rfl
      refine ⟨_, lineArm_answers awaits attached check, mapLines_frame .., fun l => ?_⟩
      rw [mapLines_getElem, restarted_lines]
      rfl
    · rintro rfl
      obtain ⟨frame, lines, slots⟩ := release_spec ((restarted_foldLaw s h).mpr law) (half hi lo)
      rw [restarted_lines] at lines
      rw [restarted_slots] at slots
      exact ⟨_, lineRelease_answers awaits attached check, frame, lines, slots⟩
  all_goals exact lineSet_illFormed member awaits attached (by simp)

/-! ### LINE_DISARM (R66) -/

/-- What LINE_DISARM makes of a line. -/
theorem disarm_eq (x : Line) : x.disarm = if x.state = .armed then
    { x with state := if x.qualification.isSome then .disarming else .disarmed } else x := by
  unfold Line.disarm
  split
  · rename_i armed; rw [if_pos armed]
  · rename_i other; rw [if_neg other]

/-- Settles O34: the checks in their order, then each line of the set disarmed. -/
theorem lineDisarmWaitsForAQualification : Obligations.LineDisarmWaitsForAQualification := by
  intro h tag payload s awaits attached
  have answers := attached_answers (i := .lineDisarm h tag payload) (command := lineDisarmReply) rfl rfl
    (fun _ _ => rfl) awaits attached
  rcases payload with _ | ⟨hi, _ | ⟨lo, _ | _⟩⟩
  case cons.cons.nil =>
    dsimp only [half] at answers ⊢
    simp only [restarted_anyLine, restarted_isSupervisor, othersLine_iff] at answers
    have state : s.anyLine (hi ++ lo) (fun l => l.state == .unset) = true ↔
        ∃ l : LineId, holds (hi ++ lo) l = true ∧ s.lines[l].state = .unset := by
      simp only [anyLine_iff, beq_iff_eq]
    split
    · rename_i empty
      rw [if_pos empty] at answers
      exact answers
    rename_i nonempty
    rw [if_neg nonempty] at answers
    split
    · rename_i foreign
      rw [if_pos foreign] at answers
      exact answers
    rename_i allowed
    rw [if_neg allowed] at answers
    split
    · rename_i unset
      rw [if_pos (state.mpr unset)] at answers
      exact answers
    rename_i configured
    rw [if_neg (configured ∘ state.mp)] at answers
    refine ⟨_, _, fun l => ?_, answers, mapLines_frame .., fun l => ?_⟩
    · rw [holds_setOf, Bool.and_eq_true, beq_iff_eq]
    · rw [mapLines_getElem, restarted_lines, disarm_eq, ite_and]
  all_goals exact answers

end Sys2Proof.Machine
end

section
/-!
CLAIM. Qualifications: their start, their end in a glitch or in an edge, and the report of an edge
(O35, O36, O37).
-/

namespace Sys2Proof.Machine

variable {s : State}

/-! ### QUALIFICATION_START and GLITCH (R60, R61, R67) -/

theorem saturate_half (x : Half) : saturate x = if x = 0xFFFF#16 then 0xFFFF#16 else x + 1#16 := by
  have largest : BitVec.allOnes 16 = 0xFFFF#16 := rfl
  rw [saturate, largest]
  by_cases full : x = 0xFFFF#16
  · rw [if_pos full, if_pos full, full]
  · rw [if_neg full, if_neg full]

/-- A qualification that may start with a filter time of 0 is a whole edge, by either row (log 5). -/
theorem qualificationStart_unfiltered {l : LineId} (due : s.startDue l = true)
    (unfiltered : s.lines[l].filter = 0#12) :
    exec (.qualificationStart l) s = .next (s.qualifyEdge l s.hubTime) ∧
    exec (.qualifiedEdge l) s = .next (s.qualifyEdge l s.hubTime) := by
  constructor
  · change execQualificationStart l s = _
    rw [execQualificationStart, if_pos due, State.startQualification, if_pos unfiltered]
  · change execQualifiedEdge l s = _
    rw [execQualifiedEdge, ((startDue_iff s l).mp due).1, due, unfiltered]
    rfl

/-- A qualification in progress that has come to its end is a whole edge (R62). -/
theorem qualifiedEdge_ended {l : LineId} {q : Qualification} (running : s.lines[l].qualification = some q)
    (due : s.edgeDue l = true) : exec (.qualifiedEdge l) s = .next (s.qualifyEdge l q.t0) := by
  change execQualifiedEdge l s = _
  rw [execQualifiedEdge, running]
  exact if_pos due

/-- Settles O35, from what makes a start and a glitch due. -/
theorem qualificationsStartAndGlitch : Obligations.QualificationsStartAndGlitch := by
  intro l s
  refine ⟨fun idle other => ?_, fun q running later same => ?_⟩
  · have due : s.startDue l = true := (startDue_iff s l).mpr ⟨idle, rawLevel_changed other⟩
    split
    · rename_i unfiltered
      obtain ⟨start, edge⟩ := qualificationStart_unfiltered due unfiltered
      rw [start, edge]
    · rename_i filtered
      change execQualificationStart l s = _
      rw [execQualificationStart, if_pos due, State.startQualification, if_neg filtered]
      rfl
  · have due : s.glitchDue l = true := (glitchDue_iff s l).mpr ⟨q, running, later, rawLevel_settled same⟩
    change execGlitch l s = _
    rw [execGlitch, if_pos due, Line.endInGlitch, saturate_half]
    rfl

/-! ### QUALIFIED_EDGE (R62, R67, R69) -/

/-- What a qualified edge makes of a line, by its settled level (R62). -/
theorem qualify_eq (x : Line) (t0 : HubTime) : x.qualify t0 = { x with
    settled := match x.settled with | .low => .high | .high => .low
    lastRise := match x.settled with | .low => some t0 | .high => x.lastRise
    lastFall := match x.settled with | .low => x.lastFall | .high => some t0
    edges := x.edges + 1#16, qualification := none } := by
  unfold Line.qualify
  cases x.settled <;> rfl

theorem includes_iff (sense : Sense) (kind : EdgeKind) : sense.includes kind = true ↔
    sense = .both ∨ (sense = .rise ∧ kind = .rise) ∨ (sense = .fall ∧ kind = .fall) := by
  cases sense <;> cases kind <;> decide

/-- When a line reports an edge (R69). -/
theorem reports_iff (x : Line) (kind : EdgeKind) : x.reports kind = true ↔
    (x.state = .armed ∨ x.state = .disarming) ∧
      (x.sense = .both ∨ (x.sense = .rise ∧ kind = .rise) ∨ (x.sense = .fall ∧ kind = .fall)) := by
  rw [Line.reports, Bool.and_eq_true, Bool.or_eq_true, beq_iff_eq, beq_iff_eq, includes_iff]

/-- A settled level is HIGH exactly where its bit is set (R80). -/
theorem holds_settledLevels (s : State) (l : LineId) :
    holds s.settledLevels l = true ↔ s.lines[l].settled = .high := by
  rw [State.settledLevels, holds_setOf]
  cases s.lines[l].settled <;> decide

/-- A qualified edge in its three parts: the flip, the report, the end of DISARMING. -/
theorem qualifyEdge_eq (s : State) (l : LineId) (t0 : HubTime) :
    ∃ u : State,
      (if s.lines[l].reports s.lines[l].settled.edgeFrom = true then
        u = (s.setLine l (s.lines[l].qualify t0)).reportEdge l s.lines[l].settled.edgeFrom t0
          (s.setLine l (s.lines[l].qualify t0)).settledLevels
      else u = s.setLine l (s.lines[l].qualify t0)) ∧
      s.qualifyEdge l t0 = u.setLine l u.lines[l].endDisarming := by
  unfold State.qualifyEdge
  dsimp only
  split
  · exact ⟨_, rfl, rfl⟩
  · exact ⟨_, rfl, rfl⟩

/-- Settles O36: QUALIFIED_EDGE is the whole edge, taken apart by qualifyEdge_eq. -/
theorem qualifiedEdgeFlipsAndReports : Obligations.QualifiedEdgeFlipsAndReports := by
  intro l s t0 other ended
  have edge : exec (.qualifiedEdge l) s = .next (s.qualifyEdge l t0) := by
    rcases ended with ⟨q, running, enough, rfl⟩ | ⟨idle, unfiltered, rfl⟩
    · exact qualifiedEdge_ended running
        ((edgeDue_iff s l).mpr ⟨q, running, enough, rawLevel_changed other⟩)
    · exact (qualificationStart_unfiltered ((startDue_iff s l).mpr ⟨idle, rawLevel_changed other⟩)
        unfiltered).2
  have kind : s.lines[l].settled.edgeFrom = match s.lines[l].settled with | .low => .rise | .high => .fall := by
    cases s.lines[l].settled <;> rfl
  obtain ⟨u, reported, whole⟩ := qualifyEdge_eq s l t0
  rw [kind, qualify_eq] at reported
  simp only [reports_iff] at reported
  refine ⟨_, u, holds_settledLevels _, reported, ?_⟩
  rw [edge, whole]
  rfl

/-! ### Reports (R69, R73, R126, R127) -/

/-- The level that an output's binding drives on an edge of this line and kind, if it is bound to one. -/
def Output.boundLevel (x : Output) (l : LineId) (k : EdgeKind) : Option Level :=
  match x.binding with
  | none => none
  | some b => if b.line = l ∧ b.kind = k then some b.level else none

theorem boundTo_eq (x : Output) (l : LineId) (k : EdgeKind) :
    x.boundTo l k = (x.boundLevel l k).isSome := by
  unfold Output.boundTo Output.boundLevel
  cases x.binding with
  | none => rfl
  | some b => by_cases line : b.line = l <;> by_cases kind : b.kind = k <;> simp [line, kind]

/-- An output with its binding's level driven and its pulse cancelled, if it is bound (R126). -/
theorem fire_eq (x : Output) (l : LineId) (k : EdgeKind) : (if x.boundTo l k then x.fire else x) =
    match x.boundLevel l k with
    | none => x
    | some level => { x with pulse := none, drive := level } := by
  rw [boundTo_eq]
  cases bound : x.boundLevel l k with
  | none => rfl
  | some level =>
    unfold Output.boundLevel at bound
    cases binding : x.binding with
    | none => rw [binding] at bound; cases bound
    | some b =>
      rw [binding] at bound
      dsimp only at bound
      split at bound <;> cases bound
      simp [Output.fire, binding]

theorem fireReflexes_output (s : State) (l : LineId) (k : EdgeKind) (o : OutputId) :
    (s.fireReflexes l k).outputs[o] =
      match s.outputs[o].boundLevel l k with
      | none => s.outputs[o]
      | some level => { s.outputs[o] with pulse := none, drive := level } :=
  (map_getElem ..).trans (fire_eq ..)

/-- The reflex offers of an edge, read before the outputs have fired: one for each bound output, with the
level it is to drive, to its owner (R11, R127). -/
theorem reflexOffers_eq (s : State) (l : LineId) (k : EdgeKind) (t0 : HubTime) :
    (s.fireReflexes l k).reflexOffers l k t0 = (List.finRange 8).filterMap fun o : OutputId =>
      (s.outputs[o].boundLevel l k).map fun level =>
        ⟨.reflexFired, .output o, t0, .reflex l level, ownerSet s.outputs[o].owner⟩ := by
  rw [State.reflexOffers, ← List.filterMap_eq_map, List.filterMap_filter]
  refine List.filterMap_congr fun o _ => ?_
  have bound : (s.fireReflexes l k).outputs[o].boundTo l k = (s.outputs[o].boundLevel l k).isSome := by
    rw [← boundTo_eq, fireReflexes_output]
    split <;> rfl
  rw [bound, Function.comp, fireReflexes_output]
  cases s.outputs[o].boundLevel l k <;> rfl

/-- A report: the outputs fire, then the reflex offers, with the record part after the first n (R73). -/
theorem reportEdge_eq (s : State) (l : LineId) (k : EdgeKind) (t0 : HubTime) (snapshot : LineSet) :
    ∃ (draws n : Nat), s.reportEdge l k t0 snapshot =
      ((({ s.fireReflexes l k with draws := draws }.takeOffers
          (((s.fireReflexes l k).reflexOffers l k t0).take n)).recordEdge l k t0 snapshot).takeOffers
        (((s.fireReflexes l k).reflexOffers l k t0).drop n)) := by
  unfold State.reportEdge
  dsimp only
  split
  · rename_i unbound
    rw [unbound]
    exact ⟨s.draws, 0, rfl⟩
  · rename_i o os offers
    rw [offers]
    exact ⟨_, _, rfl⟩

/-- Settles O37, from reportEdge_eq with the offers read before the outputs have fired. -/
theorem reportedEdgesFireReflexes : Obligations.ReportedEdgesFireReflexes := by
  intro s l k t0 snapshot
  obtain ⟨draws, n, report⟩ := reportEdge_eq s l k t0 snapshot
  rw [reflexOffers_eq] at report
  refine ⟨{ s.fireReflexes l k with draws := draws }, n, rfl, fun o => ?_, report⟩
  exact fireReflexes_output s l k o

end Sys2Proof.Machine
end

section
/-!
CLAIM. LINE_STATUS, WATCH_READ and OUT_STATUS report and change nothing (O47).
-/

namespace Sys2Proof.Machine

variable {s : State}

/-! ### Flags (R75, R133) -/

theorem bit_eq (x : Level) : x.bit = decide (x = .high) := by cases x <;> rfl

/-- A bit that an item of a pulse or a binding sets. -/
theorem any_iff {α : Type} (x : Option α) {p : α → Bool} {q : α → Prop} (same : ∀ a, p a = true ↔ q a) :
    x.any p = true ↔ ∃ a, x = some a ∧ q a := by
  simp only [Option.any_eq_true, same]

/-- The flags of LINE_STATUS fill four bits (R75). -/
theorem lineFlags_lt (x : Line) : x.flags.toNat < 16 := by
  refine Nat.lt_pow_two_of_testBit (n := 4) _ fun i high => ?_
  change x.flags.getLsbD i = false
  by_cases bound : i < 8
  · interval_cases i
    · exact holds_setOf _ (4 : Fin 8)
    · exact holds_setOf _ (5 : Fin 8)
    · exact holds_setOf _ (6 : Fin 8)
    · exact holds_setOf _ (7 : Fin 8)
  · exact BitVec.getLsbD_of_ge _ _ (Nat.le_of_not_lt bound)

/-- The elements of a vector, by their indices. -/
theorem toList_eq_map {α : Type} {n : Nat} (v : Vector α n) :
    v.toList = (List.finRange n).map fun i => v[i] := by
  rw [← List.ofFn_eq_map, ← Vector.toList_ofFn]
  congr 1
  exact (Vector.ofFn_getElem ..).symm

/-! ### Fields as the statement spells them -/

theorem ownerByte_eq (owner : Option HostId) :
    ownerByte owner = match owner with | none => 0xFF#8 | some g => BitVec.ofNat 8 g.val := by
  cases owner <;> rfl

theorem output_statusBytes_eq (x : Output) : x.statusBytes =
    [(match x.owner with | none => 0xFF#8 | some g => BitVec.ofNat 8 g.val), x.flags]
      ++ wordBytes (match x.pulse with | none => 0 | some p => BitVec.ofNat 32 p.count.remaining)
      ++ [match x.binding with | none => 0xFF#8 | some b => numberByte b.line.val] := by
  rw [Output.statusBytes, ownerByte_eq]
  cases x.pulse <;> rfl

/-! ### The three requests (R75, R110, R133) -/

/-- A byte that numbers none of `n` things. -/
theorem numbered_eq_none {n : Nat} {b : Byte} (other : ∀ i : Fin n, [b] ≠ [numberByte i.val]) :
    numbered n b = none := by
  rw [Option.eq_none_iff_forall_ne_some]
  exact fun i found => other i (by rw [numbered_eq_some found])

theorem lineStatus_answers {h : HostId} {tag : Byte} {payload : List Byte}
    (awaits : s.awaits (.lineStatus h tag payload) = true) (attached : s.isAttached h = true) :
    (∀ l : LineId, payload = [numberByte l.val] → Answers (.lineStatus h tag payload) s (s.restarted h) .ok
      (s.lines[l].statusBytes ++ halfBytes s.settledLevels)) ∧
    ((∀ l : LineId, payload ≠ [numberByte l.val]) → Refuses (.lineStatus h tag payload) s .badArg) := by
  have answers := attached_answers (i := .lineStatus h tag payload) (command := lineStatusReply) rfl rfl
    (fun _ _ => rfl) awaits attached
  have settled : (s.restarted h).settledLevels = s.settledLevels := by
    unfold State.settledLevels; rw [restarted_lines]
  refine ⟨?_, fun other => ?_⟩
  · rintro l rfl
    dsimp only at answers
    rw [numbered_numberByte l (by decide)] at answers
    dsimp only at answers
    rw [restarted_lines, settled] at answers
    exact answers
  · rcases payload with _ | ⟨b, _ | _⟩
    case cons.nil =>
      dsimp only at answers
      rw [numbered_eq_none other] at answers
      exact answers
    all_goals exact answers

theorem watchRead_answers {h : HostId} {tag : Byte} {payload : List Byte}
    (awaits : s.awaits (.watchRead h tag payload) = true) (attached : s.isAttached h = true) :
    (∀ w : WatchId, payload = [numberByte w.val] → Answers (.watchRead h tag payload) s (s.restarted h) .ok
      s.watches[w].statusBytes) ∧
    ((∀ w : WatchId, payload ≠ [numberByte w.val]) → Refuses (.watchRead h tag payload) s .badArg) := by
  have answers := attached_answers (i := .watchRead h tag payload) (command := watchReadReply) rfl rfl
    (fun _ _ => rfl) awaits attached
  refine ⟨?_, fun other => ?_⟩
  · rintro w rfl
    dsimp only at answers
    rw [numbered_numberByte w (by decide)] at answers
    dsimp only at answers
    rw [restarted_watches] at answers
    exact answers
  · rcases payload with _ | ⟨b, _ | _⟩
    case cons.nil =>
      dsimp only at answers
      rw [numbered_eq_none other] at answers
      exact answers
    all_goals exact answers

theorem outStatus_answers {h : HostId} {tag : Byte} {payload : List Byte}
    (awaits : s.awaits (.outStatus h tag payload) = true) (attached : s.isAttached h = true) :
    if payload ≠ [] then Refuses (.outStatus h tag payload) s .badArg
    else Answers (.outStatus h tag payload) s (s.restarted h) .ok
      ((List.finRange 8).flatMap fun o : OutputId => s.outputs[o].statusBytes) := by
  have answers := attached_answers (i := .outStatus h tag payload) (command := outStatusReply) rfl rfl
    (fun _ _ => rfl) awaits attached
  dsimp only at answers
  split
  · rename_i nonempty
    rw [if_pos nonempty] at answers
    exact answers
  · rename_i empty
    rw [if_neg empty, restarted_outputs, toList_eq_map, List.flatMap_map] at answers
    exact answers

/-- Settles O47: each reply's bytes, with the flags of LINE_STATUS and OUT_STATUS bit by bit. -/
theorem statusCommandsReport : Obligations.StatusCommandsReport := by
  intro h tag payload s attached
  refine ⟨fun awaits => ?line, fun awaits => ?watch, fun awaits => ?outputs⟩
  case line =>
    obtain ⟨reports, refuses⟩ := lineStatus_answers awaits attached
    refine ⟨fun l number => ⟨s.lines[l].flags, s.settledLevels, ?_, holds_setOf _ (1 : Fin 8),
      holds_setOf _ (2 : Fin 8), holds_setOf _ (3 : Fin 8), lineFlags_lt _, holds_settledLevels s, ?_⟩,
      refuses⟩
    · exact (holds_setOf _ (0 : Fin 8)).trans (bit_eq _)
    · have answers := reports l number
      rw [Line.statusBytes, ownerByte_eq] at answers
      exact answers
  case watch =>
    obtain ⟨reports, refuses⟩ := watchRead_answers awaits attached
    refine ⟨fun w number => ?_, refuses⟩
    have answers := reports w number
    rw [Watch.statusBytes, ownerByte_eq] at answers
    exact answers
  case outputs =>
    have answers := outStatus_answers awaits attached
    split
    · rename_i nonempty
      rw [if_pos nonempty] at answers
      exact answers
    · rename_i empty
      rw [if_neg empty] at answers
      refine ⟨fun o => s.outputs[o].flags, fun o => ⟨?_, ?_, holds_setOf _ (2 : Fin 8), ?_,
        holds_setOf _ (4 : Fin 8), ?_, ?_, holds_setOf _ (7 : Fin 8)⟩, ?_⟩
      · exact (holds_setOf _ (0 : Fin 8)).trans (bit_eq _)
      · exact (holds_setOf _ (1 : Fin 8)).trans (bit_eq _)
      · exact (Bool.eq_iff_iff.mp (holds_setOf _ (3 : Fin 8))).trans
          (any_iff _ fun p => by rw [bit_eq, decide_eq_true_iff])
      · exact (Bool.eq_iff_iff.mp (holds_setOf _ (5 : Fin 8))).trans (any_iff _ fun b => beq_iff_eq)
      · exact (Bool.eq_iff_iff.mp (holds_setOf _ (6 : Fin 8))).trans
          (any_iff _ fun b => by rw [bit_eq, decide_eq_true_iff])
      · simp only [output_statusBytes_eq] at answers
        exact answers

end Sys2Proof.Machine
end

section
/-!
SUPPORT. TimeKept: which operations, requests and events leave every privilege, the epoch and hub time as
they are (R89, R139).
-/

namespace Sys2Proof.Machine

variable {s t u : State} {moved : Prop}

/-- Every privilege and the epoch stand as they were, and so does hub time unless it may have been
`moved`. -/
structure TimeKept (moved : Prop) (s t : State) : Prop where
  privilege : ∀ h : HostId, t.sessions[h].privilege = s.sessions[h].privilege
  epoch : t.epoch = s.epoch
  hubTime : t.hubTime = s.hubTime ∨ moved

theorem TimeKept.refl : TimeKept moved s s := ⟨fun _ => rfl, rfl, .inl rfl⟩

theorem TimeKept.trans (a : TimeKept moved s t) (b : TimeKept moved t u) : TimeKept moved s u where
  privilege h := (b.privilege h).trans (a.privilege h)
  epoch := b.epoch.trans a.epoch
  hubTime := b.hubTime.elim (fun same => a.hubTime.imp_left same.trans) .inr

theorem TimeKept.mono {more : Prop} (kept : TimeKept moved s t) (weaker : moved → more) :
    TimeKept more s t :=
  { kept with hubTime := kept.hubTime.imp_right weaker }

/-- A change outside sessions and the Time Base. -/
theorem TimeKept.of_fields (sessions : t.sessions = s.sessions) (epoch : t.epoch = s.epoch)
    (hubTime : t.hubTime = s.hubTime) : TimeKept moved s t :=
  ⟨fun h => by rw [sessions], epoch, .inl hubTime⟩

/-- What holds at each element of a list holds along it. -/
theorem TimeKept.of_foldl {α : Type} {f : State → α → State} (each : ∀ u x, TimeKept moved u (f u x))
    (xs : List α) (s : State) : TimeKept moved s (xs.foldl f s) := by
  induction xs generalizing s with
  | nil => exact .refl
  | cons x xs ih => exact (each s x).trans (ih _)

/-- A session changed in another item than its privilege. -/
theorem TimeKept.of_setSession {h : HostId} {x : Session} (same : x.privilege = s.sessions[h].privilege) :
    TimeKept moved s (s.setSession h x) := by
  refine ⟨fun g => ?_, rfl, .inl rfl⟩
  by_cases e : g = h
  · subst e; simpa using same
  · exact congrArg Session.privilege (set_getElem_other s.sessions x e)

/-- Every session changed in another item than its privilege. -/
theorem privilege_of_map {f : Session → Session} (same : ∀ x, (f x).privilege = x.privilege)
    (mapped : t.sessions = s.sessions.map f) (h : HostId) :
    t.sessions[h].privilege = s.sessions[h].privilege := by
  rw [mapped, map_getElem]
  exact same _

theorem TimeKept.of_mapLines (named : LineSet) (f : Line → Line) : TimeKept moved s (s.mapLines named f) :=
  .of_fields (mapLines_sessions ..) (mapLines_epoch ..) (mapLines_hubTime ..)

/-! ### Operations -/

/-- An offer after what keeps time. -/
theorem TimeKept.of_offer {o : Offer} (before : TimeKept moved s u) : TimeKept moved s (u.offer o).1 := by
  rw [offer_frame]
  exact before.trans (.of_fields rfl rfl rfl)

/-- A list of offers after what keeps time. -/
theorem TimeKept.of_takeOffers {offers : List Offer} (before : TimeKept moved s u) :
    TimeKept moved s (u.takeOffers offers) := by
  rw [takeOffers_frame]
  exact before.trans (.of_fields rfl rfl rfl)

theorem recordEdge_timeKept (s : State) (l : LineId) (k : EdgeKind) (t0 : HubTime) (snapshot : LineSet) :
    TimeKept moved s (s.recordEdge l k t0 snapshot) := by
  rw [recordEdge_frame]
  exact .of_fields rfl rfl rfl

theorem reportEdge_timeKept (s : State) (l : LineId) (k : EdgeKind) (t0 : HubTime) (snapshot : LineSet) :
    TimeKept moved s (s.reportEdge l k t0 snapshot) := by
  have fired : TimeKept moved s (s.fireReflexes l k) := .of_fields rfl rfl rfl
  have drawn : TimeKept moved s { s.fireReflexes l k with draws := (s.fireReflexes l k).draws + 1 } :=
    .of_fields rfl rfl rfl
  unfold State.reportEdge
  dsimp only
  split
  · exact fired.trans (recordEdge_timeKept ..)
  · exact .of_takeOffers ((TimeKept.of_takeOffers drawn).trans (recordEdge_timeKept ..))

theorem qualifyEdge_timeKept (s : State) (l : LineId) (t0 : HubTime) :
    TimeKept moved s (s.qualifyEdge l t0) := by
  have flipped : TimeKept moved s (s.setLine l (s.lines[l].qualify t0)) := .of_fields rfl rfl rfl
  have ends : ∀ v : State, TimeKept moved v (v.setLine l v.lines[l].endDisarming) := fun v =>
    .of_fields rfl rfl rfl
  unfold State.qualifyEdge
  dsimp only
  refine .trans ?_ (ends _)
  split
  · exact flipped.trans (reportEdge_timeKept ..)
  · exact flipped

theorem removeOldest_timeKept (s : State) (h : HostId) (n : Nat) :
    TimeKept moved s (s.removeOldest h n) := by
  induction n generalizing s with
  | zero => exact .refl
  | succ n ih =>
    have head : TimeKept moved s (s.removeHead h) := by
      rw [removeHead_frame]
      exact .of_fields rfl rfl rfl
    exact head.trans (ih _)

theorem showRecord_timeKept (s : State) (i : SlotId) : TimeKept moved s (s.showRecord i) := by
  rw [showRecord_frame]
  exact .of_fields rfl rfl rfl

theorem dropFoldRefs_timeKept (s : State) (l : LineId) : TimeKept moved s (s.dropFoldRefs l) := by
  have one : ∀ (u : State) k, TimeKept moved u (u.dropFoldRef l k) := by
    intro u k
    rw [dropFoldRef_frame]
    exact .of_fields rfl rfl rfl
  exact (one s .rise).trans (one _ .fall)

theorem endSession_timeKept (s : State) (h : HostId) (c : EndCause) :
    TimeKept moved s (s.endSession h c) := by
  have ended : TimeKept moved s (s.setSession h (s.sessions[h].ended c)) := .of_setSession (by cases c <;> rfl)
  have torn : ∀ u : State, TimeKept moved u (u.teardown h) := fun u =>
    (removeOldest_timeKept u h u.queues[h].entries.length).trans (.of_fields rfl rfl rfl)
  exact .of_offer (ended.trans (torn _))

theorem softRestart_timeKept (s : State) : TimeKept moved s s.softRestart :=
  ⟨privilege_of_map (f := Session.restarted) (fun _ => rfl) rfl, rfl, .inl rfl⟩

theorem restarted_timeKept (s : State) (h : HostId) : TimeKept moved s (s.restarted h) :=
  ⟨restarted_session_privilege s h, restarted_epoch s h, .inl (restarted_hubTime s h)⟩

theorem handTick_timeKept (s : State) (levels : LineSet) : TimeKept moved s (s.handTick levels) :=
  ⟨privilege_of_map (f := Session.tick) (fun _ => rfl) rfl, rfl, .inl rfl⟩

/-! ### Requests -/

/-- The requests that concern no record and no session change nothing of the kind. -/
theorem unrelated_timeKept {command : Request → State → Reply}
    (listed : command ∈ [hubStatusReply, readTimeReply, unknownReply, subscribeLinesReply,
      subscribeHubReply, readSubscriptionsReply, queueStatusReply, lineStatusReply, watchInstallReply,
      watchCancelReply, watchReadReply, outClaimReply, outReleaseReply, outDriveReply, outPulseReply,
      outBindReply, outUnbindReply, outSafeReply, outStatusReply, setAttentionReply,
      clearAttentionReply]) (rq : Request) (s : State) :
    TimeKept moved s (command rq s).state := by
  simp only [List.mem_cons, List.not_mem_nil, or_false] at listed
  rcases listed with rfl | rfl | rfl | listed
  · unfold hubStatusReply; split <;> exact .refl
  · unfold readTimeReply; split <;> exact .refl
  · exact .refl
  rcases listed with rfl | rfl | rfl | rfl | rfl | rfl | rfl | rfl | rfl | rfl | rfl | rfl | rfl | rfl |
    rfl | rfl | rfl | rfl
  all_goals
    refine ifAttached_state .refl ?_
    try dsimp only
    repeat' split
    all_goals exact .of_fields rfl rfl rfl

/-- LINE_ARM and LINE_DISARM change the states of lines. -/
theorem lineSet_timeKept {command : Request → State → Reply}
    (listed : command ∈ [lineArmReply, lineDisarmReply]) (rq : Request) (s : State) :
    TimeKept moved s (command rq s).state := by
  simp only [List.mem_cons, List.not_mem_nil, or_false] at listed
  rcases listed with rfl | rfl
  all_goals
    refine ifAttached_state .refl ?_
    try dsimp only
    repeat' split
    all_goals try exact .refl
  · exact .of_mapLines (f := fun x => { x with state := .armed }) ..
  · exact .of_mapLines ..

/-- The requests that show or free records, drop fold references, or end sessions. -/
theorem records_timeKept {command : Request → State → Reply}
    (listed : command ∈ [detachReply, evictReply, restartHubReply, readEventsReply, ackEventsReply,
      lineConfigureReply, lineReleaseReply]) (rq : Request) (s : State) :
    TimeKept moved s (command rq s).state := by
  simp only [List.mem_cons, List.not_mem_nil, or_false] at listed
  rcases listed with rfl | rfl | rfl | rfl | rfl | rfl | rfl
  all_goals
    refine ifAttached_state .refl ?_
    try dsimp only
    repeat' split
    all_goals try exact .refl
  · exact endSession_timeKept ..
  · exact endSession_timeKept ..
  · exact softRestart_timeKept s
  · exact .of_foldl (fun u (e : Entry) => showRecord_timeKept u e.slot) _ s
  · exact removeOldest_timeKept ..
  · exact (dropFoldRefs_timeKept s _).trans (.of_fields rfl rfl rfl)
  · exact (TimeKept.of_foldl dropFoldRefs_timeKept _ s).trans (.of_mapLines ..)

theorem attach_timeKept (rq : Request) (s : State) : TimeKept moved s (attachReply rq s).state := by
  unfold attachReply
  split
  · exact .refl
  split
  · rename_i period _
    have session : TimeKept moved s (s.setSession rq.host (s.sessions[rq.host].opened period)) :=
      .of_setSession rfl
    have opened : TimeKept moved s (s.openSession rq.host period) := session.trans (.of_fields rfl rfl rfl)
    exact .of_offer opened
  · exact .refl

theorem sendNote_timeKept (rq : Request) (s : State) : TimeKept moved s (sendNoteReply rq s).state := by
  refine ifAttached_state .refl ?_
  dsimp only
  repeat' split
  case h_2.isFalse.isFalse =>
    unfold noteReply
    split
    · exact .refl
    · exact .refl
    · exact .of_offer .refl
    · exact .of_offer .refl
  all_goals exact .refl

theorem outSeize_timeKept (rq : Request) (s : State) : TimeKept moved s (outSeizeReply rq s).state := by
  refine ifAttached_state .refl ?_
  repeat' split
  case h_1.isFalse.isFalse.isFalse => exact .of_takeOffers (.of_fields rfl rfl rfl)
  all_goals exact .refl

/-- ADJUST_TIME moves hub time, and nothing else of the kind (R88, R89). -/
theorem adjustTime_timeKept (adjusts : moved) (rq : Request) (s : State) :
    TimeKept moved s (adjustTimeReply rq s).state := by
  refine ifAttached_state .refl ?_
  dsimp only
  repeat' split
  case h_1.isFalse.isFalse => exact .of_offer ⟨fun _ => rfl, rfl, .inr adjusts⟩
  all_goals exact .refl

/-- Of all requests ADJUST_TIME alone moves hub time (R188). -/
theorem commandOf_timeKept (code : Byte) (rq : Request) (s : State) :
    TimeKept (code = 0x11#8) s (commandOf code rq s).state := by
  change (fun command : Request → State → Reply => TimeKept (code = 0x11#8) s (command rq s).state)
    (commandOf code)
  unfold commandOf
  split
  case h_1 => exact attach_timeKept rq s
  case h_2 | h_3 | h_4 | h_12 | h_13 | h_15 | h_18 => exact records_timeKept (by simp) rq s
  case h_6 => exact sendNote_timeKept rq s
  case h_8 => rename_i number; exact adjustTime_timeKept (BitVec.eq_of_toNat_eq number) rq s
  case h_16 | h_17 => exact lineSet_timeKept (by simp) rq s
  case h_29 => exact outSeize_timeKept rq s
  all_goals exact unrelated_timeKept (by simp) rq s

theorem takeFrame_timeKept (s : State) (h : HostId) (code tag : Byte) (payload : List Byte) :
    TimeKept (code = 0x11#8) s (s.takeFrame h code tag payload) := by
  have restarted : TimeKept (code = 0x11#8) s (s.restarted h) := restarted_timeKept s h
  unfold State.takeFrame
  split
  · rw [State.takeRepeat, restartTimer_eq]
    exact restarted.trans (.of_fields rfl rfl rfl)
  · rw [take_eq]
    exact (restarted.trans (commandOf_timeKept ..)).trans (.of_fields rfl rfl rfl)

end Sys2Proof.Machine
end

section
/-!
CLAIM. But for resets, only TIME_WRAP moves the epoch, and only TICK, TIME_WRAP and ADJUST_TIME move hub time
(O24).
-/

namespace Sys2Proof.Machine

variable {s t : State} {moved : Prop}

/-! ### Which commands may move hub time -/

/-- The port has received a frame of ADJUST_TIME as far as its length byte or further (R175). -/
def State.receivesAdjust (s : State) (h : HostId) : Prop :=
  ∃ crc tag length offset, s.ports[h].receiver = .receiving (0x11#8 :: tag :: length :: offset) crc

/-- The commands, TIME_WRAP and the resets aside, at which hub time may change (R83, R89, log 11). -/
def MayMoveTime (c : Instr) (s : State) : Prop :=
  (∃ event, c = .tick event) ∨ (∃ h tag payload, c = .adjustTime h tag payload) ∨
  ∃ h byte, c = .byteCompletes h byte ∧ s.receivesAdjust h

/-- A request row with ADJUST_TIME's code is ADJUST_TIME (R183, R188). -/
theorem eq_adjustTime {i : Instr} {f : RequestFrame} (frame : i.frame? = some f) (known : Instr.known i = true)
    (code : f.code = 0x11#8) : ∃ h tag payload, i = .adjustTime h tag payload := by
  cases i
  case adjustTime h tag payload => exact ⟨h, tag, payload, rfl⟩
  case unknownCommand h unlisted tag payload =>
    obtain rfl := Option.some.inj frame
    obtain rfl : unlisted = 0x11#8 := code
    have listed : tableCodes.contains 0x11#8 = true := by decide
    rw [Instr.known, listed] at known
    cases known
  case frameError | frameRefusedForLength | frameDiscarded | responseSent | powerOnReset |
      externalReset | tick | timeWrap | qualificationStart | glitch | qualifiedEdge | checkExpiry |
      pulseExpiry | supervisionExpiry | selectFalls | selectRises | byteCompletes =>
    cases frame
  all_goals
    obtain rfl := Option.some.inj frame
    dsimp only at code
    exact absurd code (by decide)

theorem request_timeKept {i : Instr} {f : RequestFrame} (frame : i.frame? = some f)
    (e : exec i s = .next t) : TimeKept (MayMoveTime i s) s t := by
  rw [exec_request frame] at e
  split at e <;> cases e
  rename_i comes
  obtain ⟨known, _⟩ := Bool.and_eq_true_iff.mp comes
  exact (takeFrame_timeKept ..).mono fun code => .inr (.inl (eq_adjustTime frame known code))

/-! ### Events -/

/-- TICK moves hub time, and nothing else of the kind (R83). -/
theorem tick_timeKept (ticks : moved) (event : TickEvent) (e : execTick event s = .next t) :
    TimeKept moved s t := by
  have counted : TimeKept moved s s.count := ⟨fun _ => rfl, rfl, .inr ticks⟩
  have handedOut : ∀ levels, TimeKept moved s (s.handOut levels) := fun levels =>
    (handTick_timeKept s levels).trans (.of_fields rfl rfl rfl)
  unfold execTick at e
  repeat' split at e
  all_goals cases e
  · exact handedOut _
  · exact counted.trans (handTick_timeKept ..)
  · exact handedOut _
  · exact counted

theorem qualificationStart_timeKept (l : LineId) (e : execQualificationStart l s = .next t) :
    TimeKept moved s t := by
  unfold execQualificationStart State.startQualification at e
  repeat' split at e
  all_goals cases e
  · exact qualifyEdge_timeKept ..
  · exact .of_fields rfl rfl rfl

theorem qualifiedEdge_timeKept (l : LineId) (e : execQualifiedEdge l s = .next t) : TimeKept moved s t := by
  unfold execQualifiedEdge at e
  split at e <;> split at e <;> cases e <;> exact qualifyEdge_timeKept ..

theorem checkExpiry_timeKept (w : WatchId) (e : execCheckExpiry w s = .next t) : TimeKept moved s t := by
  have ends : ∀ kind after, TimeKept moved s (s.endWatch w kind after) := by
    intro kind after
    have changed : TimeKept moved s (s.setWatch w after) := .of_fields rfl rfl rfl
    unfold State.endWatch
    dsimp only
    split
    · exact .of_offer changed
    · exact (TimeKept.of_offer changed).trans (.of_fields rfl rfl rfl)
  unfold execCheckExpiry at e
  dsimp only at e
  repeat' split at e
  all_goals cases e
  · exact .of_fields rfl rfl rfl
  · exact ends ..
  · exact ends ..

/-- A byte moves hub time only as the CRC byte of an ADJUST_TIME frame (R180, log 11). -/
theorem byteCompletes_timeKept (h : HostId) (byte : Byte) (e : execByteCompletes h byte s = .next t) :
    TimeKept (s.receivesAdjust h) s t := by
  unfold execByteCompletes at e
  split at e <;> cases e
  · exact .refl
  · rename_i bytes crc receiving
    unfold State.receiveByte
    repeat' split
    case h_2.isFalse.isTrue =>
      rename_i code tag length payload _ _
      refine (takeFrame_timeKept s h code tag payload).mono ?_
      rintro rfl
      exact ⟨crc, tag, length, payload, receiving⟩
    all_goals exact .of_fields rfl rfl rfl
  · exact .of_fields rfl rfl rfl
  · unfold State.sendByte
    dsimp only
    repeat' split
    all_goals exact .of_fields rfl rfl rfl
  · exact .of_fields rfl rfl rfl

/-- TIME_WRAP makes hub time 0 and counts the epoch (R84). -/
theorem timeWrap_wraps (levels : LineSet) (e : execTimeWrap levels s = .next t) :
    (∀ h : HostId, t.sessions[h].privilege = s.sessions[h].privilege) ∧
    t.epoch = s.epoch + 1#16 ∧ t.hubTime = 0#32 := by
  have wrap : ∀ u : State, (∀ h : HostId, u.wrap.sessions[h].privilege = u.sessions[h].privilege) ∧
      u.wrap.epoch = u.epoch + 1#16 ∧ u.wrap.hubTime = 0#32 := by
    intro u
    unfold State.wrap
    dsimp only
    rw [offer_frame]
    exact ⟨fun _ => rfl, rfl, rfl⟩
  unfold execTimeWrap at e
  repeat' split at e
  all_goals cases e
  · exact wrap s
  · obtain ⟨privilege, counts⟩ := wrap (s.handTick levels)
    have handed : TimeKept False s (s.handTick levels) := handTick_timeKept s levels
    exact ⟨fun h => (privilege h).trans (handed.privilege h), counts⟩

/-- Every command but the resets and TIME_WRAP (R89, R139). -/
theorem exec_timeKept {c : Instr} (e : exec c s = .next t)
    (powerOn : ∀ straps levels selects, c ≠ .powerOnReset straps levels selects)
    (external : ∀ straps levels selects, c ≠ .externalReset straps levels selects)
    (wrap : ∀ levels, c ≠ .timeWrap levels) : TimeKept (MayMoveTime c s) s t := by
  cases c
  case powerOnReset => exact absurd rfl (powerOn _ _ _)
  case externalReset => exact absurd rfl (external _ _ _)
  case timeWrap => exact absurd rfl (wrap _)
  case tick event => exact tick_timeKept (.inl ⟨event, rfl⟩) event e
  case qualificationStart l => exact qualificationStart_timeKept l e
  case qualifiedEdge l => exact qualifiedEdge_timeKept l e
  case checkExpiry w => exact checkExpiry_timeKept w e
  case supervisionExpiry h =>
    change execSupervisionExpiry h s = _ at e
    unfold execSupervisionExpiry at e
    split at e <;> cases e
    exact endSession_timeKept ..
  case byteCompletes h byte =>
    exact (byteCompletes_timeKept h byte e).mono fun adjust => .inr (.inr ⟨h, byte, rfl, adjust⟩)
  case frameError | frameRefusedForLength | frameDiscarded | responseSent | glitch | pulseExpiry |
      selectFalls | selectRises =>
    simp only [exec, execFrameError, execFrameRefusedForLength, execFrameDiscarded, execResponseSent,
      execGlitch, execPulseExpiry, execSelectFalls, execSelectRises] at e
    repeat' split at e
    all_goals cases e
    all_goals exact .of_fields rfl rfl rfl
  all_goals exact request_timeKept rfl e

/-- Settles O24, by whether the command is TIME_WRAP. -/
theorem onlyCountingMovesTheEpoch : Obligations.OnlyCountingMovesTheEpoch := by
  intro c s t e powerOn external
  by_cases wraps : ∃ levels, c = .timeWrap levels
  · obtain ⟨levels, rfl⟩ := wraps
    obtain ⟨privilege, counts⟩ := timeWrap_wraps levels e
    exact ⟨privilege, fun other => absurd rfl (other levels), fun _ => counts,
      fun _ => .inr (.inl ⟨levels, rfl⟩)⟩
  · have other : ∀ levels, c ≠ .timeWrap levels := fun levels same => wraps ⟨levels, same⟩
    obtain ⟨privilege, epoch, hubTime⟩ := exec_timeKept e powerOn external other
    refine ⟨privilege, fun _ => epoch, fun wrap => absurd wrap wraps, fun changed => ?_⟩
    rcases hubTime.resolve_left changed with tick | adjust | ⟨h, byte, rfl, crc, tag, length, offset, frame⟩
    · exact .inl tick
    · exact .inr (.inr (.inl adjust))
    · exact .inr (.inr (.inr ⟨h, byte, crc, tag, length, offset, rfl, frame⟩))

end Sys2Proof.Machine
end

section
/-!
CLAIM. The Time Base's counts: ADJUST_TIME (O20), countdowns (O22) and TIME_WRAP (O23).
-/

namespace Sys2Proof.Machine

variable {s : State}

/-! ### ADJUST_TIME (R88, R89) -/

/-- Whether an offer's record was created, and its sequence, as the statement spells them (R88). -/
theorem createdBytes_eq (seq : Half) (result : OfferResult) :
    createdBytes seq result =
      match result with
      | .created _ _ _ => 1#8 :: halfBytes seq
      | _ => [0#8, 0#8, 0#8] := by
  cases result <;> rfl

/-- An ORDINARY host is no SUPERVISOR (R139). -/
theorem not_isSupervisor_iff (s : State) (h : HostId) :
    s.isSupervisor h = false ↔ s.sessions[h].privilege = .ordinary := by
  rw [← Bool.not_eq_true', ordinary_iff]

/-- Settles O20, by the length of the payload and the checks in their order. -/
theorem adjustTimeMovesHubTime : Obligations.AdjustTimeMovesHubTime := by
  intro h tag payload s awaits attached
  have answers := attached_answers (i := .adjustTime h tag payload) (command := adjustTimeReply) rfl rfl
    (fun _ _ => rfl) awaits attached
  rcases payload with _ | ⟨b3, _ | ⟨b2, _ | ⟨b1, _ | ⟨b0, _ | _⟩⟩⟩⟩
  case cons.cons.cons.cons.nil =>
    dsimp only at answers ⊢
    rw [restarted_isSupervisor, restarted_hubTime, restarted_epoch, restarted_nextSeq] at answers
    split
    · rename_i zero
      rw [word, if_pos zero] at answers
      exact answers
    · rename_i nonzero
      rw [word, if_neg nonzero] at answers
      split
      · rename_i ordinary
        rw [if_pos ((not_isSupervisor_iff s h).mpr ordinary)] at answers
        exact answers
      · rename_i supervisor
        rw [if_neg (mt (not_isSupervisor_iff s h).mp supervisor), createdBytes_eq] at answers
        rw [restarted_epoch, restarted_nextSeq]
        exact answers
  all_goals exact answers

/-! ### Countdowns (R91, R122, R144) -/

/-- Before its last tick a count of `n` has lost one for each tick. -/
theorem countdown_after {n k : Nat} (early : k < n) :
    Countdown.tick^[k] (Countdown.start n) = { remaining := n - k, due := false } := by
  induction k with
  | zero => rfl
  | succ k ih =>
    rw [Function.iterate_succ_apply', ih (by omega), Countdown.tick, if_neg (by dsimp only; omega)]
    rfl

/-- Settles O22: the last tick finds 1 remaining. -/
theorem countdownsRunTheirFullLength : Obligations.CountdownsRunTheirFullLength := by
  refine fun n k => ⟨countdown_after, fun some_tick => ?_⟩
  obtain ⟨k, rfl⟩ := Nat.exists_eq_add_of_le' some_tick
  rw [Function.iterate_succ_apply', countdown_after (Nat.lt_succ_self k), Countdown.tick,
    if_pos (by dsimp only; omega)]

/-! ### TIME_WRAP (R84) -/

/-- Where a count is owed, TIME_WRAP makes it. -/
theorem timeWrap_owed (last : s.hubTime = lastHubTime) (owed : s.countOwed = true) (levels : LineSet) :
    exec (.timeWrap levels) s = .next s.wrap := by
  change execTimeWrap levels s = _
  rw [execTimeWrap, if_neg (not_not.mpr last), if_pos owed]

/-- Where none is owed, TIME_WRAP is the whole tick. -/
theorem timeWrap_whole (last : s.hubTime = lastHubTime) (counted : s.countOwed = false)
    (idle : s.eventsDue = false) (levels : LineSet) :
    exec (.timeWrap levels) s = .next (s.handTick levels).wrap := by
  change execTimeWrap levels s = _
  rw [execTimeWrap, if_neg (not_not.mpr last), if_neg (Bool.eq_false_iff.mp counted),
    if_neg (Bool.eq_false_iff.mp idle)]

/-- Settles O23: what the whole tick hands out wraps as a count owed does. -/
theorem timeWrapCountsTheEpoch : Obligations.TimeWrapCountsTheEpoch := by
  intro levels s last
  refine ⟨fun owed => timeWrap_owed last owed levels, fun counted idle => ⟨s.handOut levels, ?_, ?_⟩⟩
  · have whole := tick_whole ((mayTick_iff s).mpr ⟨idle, counted⟩) levels
    rw [if_pos (show s.hubTime = lastHubTime from last)] at whole
    exact whole
  · exact timeWrap_whole last counted idle levels

end Sys2Proof.Machine
end

section
/-!
CLAIM. READ_TIME and HUB_STATUS report and change nothing (O19).
-/

namespace Sys2Proof.Machine

variable {s : State}

/-! ### What HUB_STATUS reports (R154) -/

/-- Two bits of the state of every host, in the order of their numbers (R154, field 8). -/
theorem hostStates_field (s : State) (g : HostId) :
    s.hostStates.extractLsb' (2 * g.val) 2 = s.sessions[g].state.code := by
  have fields : ∀ (x3 x2 x1 x0 : BitVec 2), (x3 ++ x2 ++ x1 ++ x0).extractLsb' 0 2 = x0 ∧
      (x3 ++ x2 ++ x1 ++ x0).extractLsb' 2 2 = x1 ∧ (x3 ++ x2 ++ x1 ++ x0).extractLsb' 4 2 = x2 ∧
      (x3 ++ x2 ++ x1 ++ x0).extractLsb' 6 2 = x3 := by decide
  obtain ⟨host0, host1, host2, host3⟩ := fields s.sessions[3].state.code s.sessions[2].state.code
    s.sessions[1].state.code s.sessions[0].state.code
  fin_cases g
  · exact host0
  · exact host1
  · exact host2
  · exact host3

/-- The free record count is the number of FREE slots (R27). -/
theorem freeCount_eq (s : State) :
    s.freeCount = (List.finRange 64).countP fun i : SlotId => s.slots[i].isNone := by
  rw [State.freeCount, toList_eq_map, List.countP_map]
  rfl

theorem privilege_byte_eq (x : Privilege) : x.byte = if x = .supervisor then 1#8 else 0#8 := by
  cases x <;> rfl

/-- The field of the session states reads nothing else of the sessions. -/
theorem hostStates_congr {t : State} (same : ∀ g : HostId, t.sessions[g].state = s.sessions[g].state) :
    t.hostStates = s.hostStates := by
  have host3 : t.sessions[3].state = s.sessions[3].state := same 3
  have host2 : t.sessions[2].state = s.sessions[2].state := same 2
  have host1 : t.sessions[1].state = s.sessions[1].state := same 1
  have host0 : t.sessions[0].state = s.sessions[0].state := same 0
  rw [State.hostStates, State.hostStates, host3, host2, host1, host0]

/-! ### READ_TIME and HUB_STATUS -/

theorem readTime_answers {h : HostId} {tag : Byte} {payload : List Byte}
    (awaits : s.awaits (.readTime h tag payload) = true) :
    if payload ≠ [] then Refuses (.readTime h tag payload) s .badArg
    else Answers (.readTime h tag payload) s (s.restarted h) .ok
      (wordBytes s.hubTime ++ halfBytes s.epoch) := by
  have answers := request_answers (i := .readTime h tag payload) (command := readTimeReply) rfl rfl awaits
  dsimp only [readTimeReply] at answers
  split
  · rename_i nonempty
    rw [if_pos nonempty] at answers
    exact answers
  · rename_i empty
    rw [if_neg empty, restarted_hubTime, restarted_epoch] at answers
    exact answers

theorem hubStatus_answers {h : HostId} {tag : Byte} {payload : List Byte}
    (awaits : s.awaits (.hubStatus h tag payload) = true) :
    if payload ≠ [] then Refuses (.hubStatus h tag payload) s .badArg
    else Answers (.hubStatus h tag payload) s (s.restarted h) .ok
      ([s.resetCause.byte, s.sessions[h].state.code.setWidth 8, s.sessions[h].privilege.byte,
          flagByte s.sessions[h].notice, s.sessions[h].loss.byte, s.sessions[h].number,
          s.sessions[h].period, s.hostStates, numberByte s.freeCount]
        ++ halfBytes s.exhaustion ++ halfBytes s.nextSeq ++ halfBytes s.epoch
        ++ [s.ports[h].discarded, s.ports[h].frameErrors]) := by
  have answers := request_answers (i := .hubStatus h tag payload) (command := hubStatusReply) rfl rfl awaits
  obtain ⟨timer, session⟩ := restarted_session s h h
  have states : (s.restarted h).hostStates = s.hostStates :=
    hostStates_congr (restarted_session_state s h)
  have free : (s.restarted h).freeCount = s.freeCount := by unfold State.freeCount; rw [restarted_slots]
  dsimp only [hubStatusReply] at answers
  split
  · rename_i nonempty
    rw [if_pos nonempty] at answers
    exact answers
  · rename_i empty
    rw [if_neg empty, session, free, states, restarted_resetCause, restarted_exhaustion,
      restarted_nextSeq, restarted_epoch, restarted_ports] at answers
    exact answers

/-- Settles O19, the fields of HUB_STATUS spelled as the statement does. -/
theorem readTimeAndHubStatusReport : Obligations.ReadTimeAndHubStatusReport := by
  intro h tag payload s
  refine ⟨readTime_answers, fun awaits => ?_⟩
  have answers := hubStatus_answers awaits
  split
  · rename_i nonempty
    rw [if_pos nonempty] at answers
    exact answers
  · rename_i empty
    rw [if_neg empty, freeCount_eq, privilege_byte_eq] at answers
    exact ⟨s.hostStates, hostStates_field s, answers⟩

end Sys2Proof.Machine
end

section
/-!
SUPPORT. The payload of a WATCH_INSTALL and the arguments it carries (R96).
-/

namespace Sys2Proof.Machine

/-! ### Fields (R96) -/

theorem watchMode?_byte (x : WatchMode) : watchMode? x.byte = some x := by cases x <;> rfl

theorem watchMode?_eq_some {b : Byte} {x : WatchMode} (found : watchMode? b = some x) : b = x.byte := by
  unfold watchMode? at found
  split at found
  · cases found; assumption
  split at found <;> cases found
  assumption

theorem hostSet?_setWidth (x : HostSet) : hostSet? (x.setWidth 8) = some x := by
  revert x; decide

theorem hostSet?_eq_some {b : Byte} {x : HostSet} (found : hostSet? b = some x) : b = x.setWidth 8 := by
  unfold hostSet? at found
  split at found <;> cases found
  rename_i fits
  refine set_ext fun i => ?_
  have outside : (holds b i && holds 0xF0#8 i) = false := by
    rw [← holds_and, fits, holds_zero]
  by_cases low : i.val < 4
  · simp [holds, low]
  · have masked : holds 0xF0#8 i = true := by clear outside; revert i; decide
    rw [masked, Bool.and_true] at outside
    rw [outside]
    simp [holds, low]

/-- The payload that carries the arguments (R96). -/
def InstallArgs.payload (a : InstallArgs) : List Byte :=
  a.tag :: halfBytes a.mask ++ halfBytes a.pattern ++ halfBytes a.period ++ [a.confirm] ++
    halfBytes a.deadline ++ [a.mode.byte, a.notify.setWidth 8]

/-- The arguments are read back from their payload, if they are in range. -/
theorem installArgs?_payload (a : InstallArgs) :
    installArgs? a.payload = if a.inRange then some a else none := by
  simp only [InstallArgs.payload, halfBytes, List.cons_append, List.nil_append, installArgs?, half_halfBytes,
    watchMode?_byte, hostSet?_setWidth]

/-- Arguments read are in range, and the payload is theirs. -/
theorem installArgs?_eq_some {payload : List Byte} {a : InstallArgs} (found : installArgs? payload = some a) :
    a.inRange = true ∧ payload = a.payload := by
  unfold installArgs? at found
  split at found
  · split at found
    · rename_i mode notify
      dsimp only at found
      split at found <;> cases found
      rename_i inRange
      refine ⟨inRange, ?_⟩
      simp only [InstallArgs.payload, halfBytes_half, ← watchMode?_eq_some mode,
        ← hostSet?_eq_some notify, List.cons_append, List.nil_append]
    · cases found
  · cases found

end Sys2Proof.Machine
end

section
/-!
SUPPORT. The check of a watch entry, case by case (R101 to R104).
-/

namespace Sys2Proof.Machine

variable {x : Watch}

/-- The entry that a check leaves: as it goes on, REARMING or FREE after a match, FREE after a timeout. -/
def CheckResult.entry : CheckResult → Watch
  | .goesOn after => after
  | .matched after => after
  | .timedOut => Watch.blank

/-- In REARMING a match changes nothing and a mismatch begins a new cycle (R104). -/
theorem check_rearming (rearming : x.state = .rearming) (matching : Bool) :
    x.check matching = .goesOn (if matching then { x with ticks := periodTicks x.period }
      else { x with state := .waiting, checks := 0, ticks := periodTicks x.period }) := by
  rw [Watch.check, if_pos rearming]
  cases matching <;> rfl

/-- The K-th match in a row ends the entry in a match, whatever its deadline (R101, R102). -/
theorem check_lastMatch (active : x.state ≠ .rearming) (last : x.consecutive + 1#8 = x.confirm) :
    x.check true = .matched (x.afterMatch (saturate x.checks)) := by
  rw [Watch.check, if_neg active]
  simp [last]

/-- Short of the K-th match in a row, the D-th check ends the entry in a timeout (R103). -/
theorem check_deadline {matching : Bool} (active : x.state ≠ .rearming)
    (unfinished : ¬ (matching = true ∧ x.consecutive + 1#8 = x.confirm))
    (deadline : x.deadline ≠ 0#16 ∧ saturate x.checks = x.deadline) : x.check matching = .timedOut := by
  rw [Watch.check, if_neg active]
  dsimp only
  rw [if_neg, if_pos deadline]
  cases matching with
  | false => simp
  | true => simpa using unfinished

/-- Before its deadline an entry goes on, CONFIRMING after a match (R101). -/
theorem check_match (active : x.state ≠ .rearming) (unfinished : x.consecutive + 1#8 ≠ x.confirm)
    (running : ¬ (x.deadline ≠ 0#16 ∧ saturate x.checks = x.deadline)) :
    x.check true = .goesOn { x with
      state := .confirming, checks := saturate x.checks, consecutive := x.consecutive + 1#8
      ticks := periodTicks x.period } := by
  rw [Watch.check, if_neg active]
  dsimp only
  rw [if_neg (by simpa using unfinished), if_neg running]
  rfl

/-- Before its deadline an entry goes on, WAITING after a mismatch, which breaks the run (R101). -/
theorem check_mismatch (active : x.state ≠ .rearming)
    (running : ¬ (x.deadline ≠ 0#16 ∧ saturate x.checks = x.deadline)) :
    x.check false = .goesOn { x with
      state := .waiting, checks := saturate x.checks, consecutive := 0
      ticks := periodTicks x.period } := by
  rw [Watch.check, if_neg active]
  dsimp only
  rw [if_neg (by simp), if_neg running]
  rfl

/-- What a check leaves of an entry: nothing; or the entry but for its state and counts, with no match in a
row in WAITING and REARMING, and one more, but not K, in CONFIRMING. -/
theorem check_entry (x : Watch) (matching : Bool) :
    (x.check matching).entry = Watch.blank ∨
    ∃ state checks consecutive ticks,
      (x.check matching).entry =
        { x with state := state, checks := checks, consecutive := consecutive, ticks := ticks } ∧
      ((state = .waiting ∨ state = .rearming) ∧ consecutive = 0#8 ∨
        (state = .waiting ∨ state = .rearming) ∧ x.state = .rearming ∧ consecutive = x.consecutive ∨
        state = .confirming ∧ consecutive = x.consecutive + 1#8 ∧ x.consecutive + 1#8 ≠ x.confirm) := by
  by_cases rearming : x.state = .rearming
  · rw [check_rearming rearming]
    cases matching with
    | true => exact .inr ⟨_, _, _, _, rfl, .inr (.inl ⟨.inr rearming, rearming, rfl⟩)⟩
    | false => exact .inr ⟨_, _, _, _, rfl, .inr (.inl ⟨.inl rfl, rearming, rfl⟩)⟩
  by_cases last : matching = true ∧ x.consecutive + 1#8 = x.confirm
  · obtain ⟨rfl, kth⟩ := last
    rw [check_lastMatch rearming kth, Watch.afterMatch]
    cases x.mode with
    | once => exact .inl rfl
    | repeating => exact .inr ⟨_, _, _, _, rfl, .inl ⟨.inr rfl, rfl⟩⟩
  by_cases deadline : x.deadline ≠ 0#16 ∧ saturate x.checks = x.deadline
  · rw [check_deadline rearming last deadline]
    exact .inl rfl
  cases matching with
  | true =>
    have early : x.consecutive + 1#8 ≠ x.confirm := fun kth => last ⟨rfl, kth⟩
    rw [check_match rearming early deadline]
    exact .inr ⟨_, _, _, _, rfl, .inr (.inr ⟨rfl, rfl, early⟩)⟩
  | false =>
    rw [check_mismatch rearming deadline]
    exact .inr ⟨_, _, _, _, rfl, .inl ⟨.inl rfl, rfl⟩⟩

end Sys2Proof.Machine
end

section
/-!
SUPPORT. WatchMove: what a command can do to each entry of the Watch Table while hosts attach and leave (R94
to R97, R99, R101 to R104, R108, R111, R112).
-/

namespace Sys2Proof.Machine

variable {s t u : State}

/-! ### The move of one entry -/

/-- What one event can make of an entry `x`, with the hosts ATTACHED `before` and `after` it. Only in `left`
does a host stop being ATTACHED while an entry stays in use. -/
inductive EntryMove (before after : HostId → Bool) (x : Watch) : Watch → Prop
  | kept (stay : ∀ h, before h = true → after h = true) : EntryMove before after x x
  | ticked (stay : ∀ h, before h = true → after h = true) : EntryMove before after x x.tick
  | freed : EntryMove before after x Watch.blank
  | installed (args : InstallArgs) (owner : HostId) (inRange : args.inRange = true)
      (attached : before owner = true) (stay : ∀ h, before h = true → after h = true) :
      EntryMove before after x (args.entry owner (setOf before))
  | checked (matching : Bool) (used : x.state ≠ .free) (stay : ∀ h, before h = true → after h = true) :
      EntryMove before after x (x.check matching).entry
  | left (h : HostId) (others : ∀ g, g ≠ h → before g = true → after g = true) :
      EntryMove before after x (x.leave h)

/-- Every entry makes a move. -/
structure WatchMove (s t : State) : Prop where
  entry : ∀ w : WatchId, EntryMove s.isAttached t.isAttached s.watches[w] t.watches[w]

/-- The moves of a command, one after another. -/
abbrev WatchMoves : State → State → Prop := Relation.ReflTransGen WatchMove

/-! ### Operations that leave the Watch Table -/

/-- The Watch Table stands as it was, and every ATTACHED host is ATTACHED still. -/
structure WatchesKept (s t : State) : Prop where
  watches : t.watches = s.watches
  attached : ∀ h : HostId, s.isAttached h = true → t.isAttached h = true

theorem WatchesKept.refl : WatchesKept s s := ⟨rfl, fun _ => id⟩

theorem WatchesKept.trans (a : WatchesKept s t) (b : WatchesKept t u) : WatchesKept s u :=
  ⟨b.watches.trans a.watches, fun h attached => b.attached h (a.attached h attached)⟩

/-- The hosts that are ATTACHED, by the sessions. -/
theorem isAttached_of_sessions (same : t.sessions = s.sessions) : t.isAttached = s.isAttached := by
  unfold State.isAttached
  rw [same]

/-- A change outside the Watch Table and the sessions. -/
theorem WatchesKept.of_fields (watches : t.watches = s.watches) (sessions : t.sessions = s.sessions) :
    WatchesKept s t :=
  ⟨watches, fun _ attached => by rw [isAttached_of_sessions sessions]; exact attached⟩

theorem WatchesKept.of_foldl {α : Type} {f : State → α → State} (each : ∀ u x, WatchesKept u (f u x))
    (xs : List α) (s : State) : WatchesKept s (xs.foldl f s) := by
  induction xs generalizing s with
  | nil => exact .refl
  | cons x xs ih => exact (each s x).trans (ih _)

/-- An offer after what keeps the Watch Table. -/
theorem WatchesKept.of_offer {o : Offer} (before : WatchesKept s u) : WatchesKept s (u.offer o).1 :=
  before.trans (.of_fields (offer_watches ..) (offer_sessions ..))

/-- A list of offers after what keeps the Watch Table. -/
theorem WatchesKept.of_takeOffers {offers : List Offer} (before : WatchesKept s u) :
    WatchesKept s (u.takeOffers offers) :=
  takeOffers_induction (p := WatchesKept s) (fun _ _ => .of_offer) before offers

theorem removeOldest_watchesKept (s : State) (h : HostId) (n : Nat) :
    WatchesKept s (s.removeOldest h n) := by
  induction n generalizing s with
  | zero => exact .refl
  | succ n ih =>
    have head : WatchesKept s (s.removeHead h) := by
      rw [removeHead_frame]
      exact .of_fields rfl rfl
    exact head.trans (ih _)

theorem showRecord_watchesKept (s : State) (i : SlotId) : WatchesKept s (s.showRecord i) := by
  rw [showRecord_frame]
  exact .of_fields rfl rfl

theorem dropFoldRefs_watchesKept (s : State) (l : LineId) : WatchesKept s (s.dropFoldRefs l) := by
  have one : ∀ (u : State) k, WatchesKept u (u.dropFoldRef l k) := by
    intro u k
    rw [dropFoldRef_frame]
    exact .of_fields rfl rfl
  exact (one s .rise).trans (one _ .fall)

theorem recordEdge_watchesKept (s : State) (l : LineId) (k : EdgeKind) (t0 : HubTime) (snapshot : LineSet) :
    WatchesKept s (s.recordEdge l k t0 snapshot) := by
  rw [recordEdge_frame]
  exact .of_fields rfl rfl

theorem reportEdge_watchesKept (s : State) (l : LineId) (k : EdgeKind) (t0 : HubTime) (snapshot : LineSet) :
    WatchesKept s (s.reportEdge l k t0 snapshot) := by
  have fired : WatchesKept s (s.fireReflexes l k) := .of_fields rfl rfl
  have drawn : WatchesKept s { s.fireReflexes l k with draws := (s.fireReflexes l k).draws + 1 } :=
    .of_fields rfl rfl
  unfold State.reportEdge
  dsimp only
  split
  · exact fired.trans (recordEdge_watchesKept ..)
  · exact .of_takeOffers ((WatchesKept.of_takeOffers drawn).trans (recordEdge_watchesKept ..))

theorem qualifyEdge_watchesKept (s : State) (l : LineId) (t0 : HubTime) :
    WatchesKept s (s.qualifyEdge l t0) := by
  have flipped : WatchesKept s (s.setLine l (s.lines[l].qualify t0)) := .of_fields rfl rfl
  have ends : ∀ v : State, WatchesKept v (v.setLine l v.lines[l].endDisarming) := fun v =>
    .of_fields rfl rfl
  unfold State.qualifyEdge
  dsimp only
  refine .trans ?_ (ends _)
  split
  · exact flipped.trans (reportEdge_watchesKept ..)
  · exact flipped

theorem restarted_watchesKept (s : State) (h : HostId) : WatchesKept s (s.restarted h) :=
  ⟨restarted_watches s h, fun g attached => by rw [restarted_isAttached]; exact attached⟩

/-- An ATTACH adds a host to those ATTACHED (R142). -/
theorem openSession_watchesKept (s : State) (h : HostId) (period : Byte) :
    WatchesKept s (s.openSession h period) := by
  refine ⟨rfl, fun g attached => ?_⟩
  have session : (s.openSession h period).sessions[g] =
      if g = h then s.sessions[h].opened period else s.sessions[g] := by
    split
    · rename_i e; subst e; exact Vector.getElem_set_self ..
    · rename_i other; exact set_getElem_other _ _ other
  rw [State.isAttached, session]
  split
  · rfl
  · exact attached

/-! ### Operations on the Watch Table -/

theorem WatchesKept.move (kept : WatchesKept s t) : WatchMove s t :=
  ⟨fun _ => by rw [kept.watches]; exact .kept kept.attached⟩

theorem WatchesKept.moves (kept : WatchesKept s t) : WatchMoves s t := .single kept.move

/-- One entry makes a move and no session changes. -/
theorem WatchMove.of_set {w : WatchId} {x : Watch} (watches : t.watches = s.watches.set w.val x)
    (sessions : t.sessions = s.sessions) (move : EntryMove s.isAttached s.isAttached s.watches[w] x) :
    WatchMove s t := by
  refine ⟨fun v => ?_⟩
  rw [isAttached_of_sessions sessions, watches]
  by_cases e : v = w
  · subst e
    simpa using move
  · rw [set_getElem_other _ _ e]
    exact .kept fun _ => id

/-- Every entry is FREE, as a reset leaves it (R93). -/
theorem WatchMove.of_blank (watches : t.watches = Vector.replicate 16 Watch.blank) : WatchMove s t := by
  refine ⟨fun w => ?_⟩
  have blank : t.watches[w] = Watch.blank := by simp [watches]
  rw [blank]
  exact .freed

theorem handTick_watchMove (s : State) (levels : LineSet) : WatchMove s (s.handTick levels) := by
  refine ⟨fun w => ?_⟩
  rw [handTick_watch]
  refine .ticked fun h attached => ?_
  rw [State.isAttached, handTick_session]
  exact attached

/-- A session end: the host leaves every entry, and no other host leaves (R111, R112). -/
theorem endSession_watchMove (s : State) (h : HostId) (c : EndCause) : WatchMove s (s.endSession h c) := by
  have removed := removeOldest_watchesKept (s.setSession h (s.sessions[h].ended c)) h
    s.queues[h].entries.length
  refine ⟨fun w => ?_⟩
  have entry : (s.endSession h c).watches[w] = s.watches[w].leave h := by
    unfold State.endSession
    dsimp only
    rw [offer_watches, State.teardown, map_getElem, setSession_queues, removed.watches]
    rfl
  rw [entry]
  refine .left h fun g other attached => ?_
  have stays : (s.setSession h (s.sessions[h].ended c)).isAttached g = true := by
    rw [State.isAttached, State.setSession, set_getElem_other _ _ other]
    exact attached
  unfold State.endSession
  dsimp only
  rw [isAttached_of_sessions (offer_sessions ..)]
  exact removed.attached g stays

/-- The end of an entry changes that entry and no session (R102, R103). -/
theorem endWatch_watches (s : State) (w : WatchId) (kind : Kind) (after : Watch) :
    (s.endWatch w kind after).watches = s.watches.set w.val after ∧
      (s.endWatch w kind after).sessions = s.sessions := by
  unfold State.endWatch
  dsimp only
  split
  · exact ⟨offer_watches .., offer_sessions ..⟩
  · exact ⟨offer_watches .., offer_sessions ..⟩

end Sys2Proof.Machine
end

section
/-!
SUPPORT. The moves of the Watch Table at each request and each event.
-/

namespace Sys2Proof.Machine

variable {s t u : State}

/-! ### Requests -/

/-- The requests that make no offer and concern no record, no session and no entry. -/
theorem unrelated_watchesKept {command : Request → State → Reply}
    (listed : command ∈ [hubStatusReply, readTimeReply, unknownReply, subscribeLinesReply,
      subscribeHubReply, readSubscriptionsReply, queueStatusReply, lineStatusReply, watchReadReply,
      outClaimReply, outReleaseReply, outDriveReply, outPulseReply,
      outBindReply, outUnbindReply, outSafeReply, outStatusReply, setAttentionReply,
      clearAttentionReply]) (rq : Request) (s : State) : WatchesKept s (command rq s).state := by
  simp only [List.mem_cons, List.not_mem_nil, or_false] at listed
  rcases listed with rfl | rfl | rfl | listed
  · unfold hubStatusReply; split <;> exact .refl
  · unfold readTimeReply; split <;> exact .refl
  · exact .refl
  rcases listed with rfl | rfl | rfl | rfl | rfl | rfl | rfl | rfl | rfl | rfl | rfl | rfl | rfl | rfl |
    rfl | rfl
  all_goals
    refine ifAttached_state .refl ?_
    try dsimp only
    repeat' split
    all_goals exact .of_fields rfl rfl

/-- LINE_ARM and LINE_DISARM change the states of lines. -/
theorem lineSet_watchesKept {command : Request → State → Reply}
    (listed : command ∈ [lineArmReply, lineDisarmReply]) (rq : Request) (s : State) :
    WatchesKept s (command rq s).state := by
  have mapped : ∀ named f, WatchesKept s (s.mapLines named f) := fun _ _ =>
    .of_fields (mapLines_watches ..) (mapLines_sessions ..)
  simp only [List.mem_cons, List.not_mem_nil, or_false] at listed
  rcases listed with rfl | rfl
  all_goals
    refine ifAttached_state .refl ?_
    try dsimp only
    repeat' split
    all_goals try exact .refl
  · exact mapped _ fun l => { l with state := .armed }
  · exact mapped ..

/-- The requests that show or free records, or drop fold references. -/
theorem records_watchesKept {command : Request → State → Reply}
    (listed : command ∈ [readEventsReply, ackEventsReply, lineConfigureReply, lineReleaseReply])
    (rq : Request) (s : State) : WatchesKept s (command rq s).state := by
  simp only [List.mem_cons, List.not_mem_nil, or_false] at listed
  rcases listed with rfl | rfl | rfl | rfl
  all_goals
    refine ifAttached_state .refl ?_
    try dsimp only
    repeat' split
    all_goals try exact .refl
  · exact .of_foldl (fun u (e : Entry) => showRecord_watchesKept u e.slot) _ s
  · exact removeOldest_watchesKept ..
  · exact (dropFoldRefs_watchesKept s _).trans (.of_fields rfl rfl)
  · exact (WatchesKept.of_foldl dropFoldRefs_watchesKept _ s).trans
      (.of_fields (mapLines_watches ..) (mapLines_sessions ..))

/-- The requests that make offers and end no session. -/
theorem offering_watchesKept {command : Request → State → Reply}
    (listed : command ∈ [attachReply, sendNoteReply, adjustTimeReply, outSeizeReply])
    (rq : Request) (s : State) : WatchesKept s (command rq s).state := by
  simp only [List.mem_cons, List.not_mem_nil, or_false] at listed
  rcases listed with rfl | rfl | rfl | rfl
  · unfold attachReply
    repeat' split
    case h_1 => exact .of_offer (openSession_watchesKept ..)
    all_goals exact .refl
  all_goals
    refine ifAttached_state .refl ?_
    try dsimp only
    repeat' split
  case h_2.isFalse.isFalse =>
    unfold noteReply
    split
    · exact .refl
    · exact .refl
    · exact .of_offer .refl
    · exact .of_offer .refl
  case h_1.isFalse.isFalse => exact .of_offer (.of_fields rfl rfl)
  case h_1.isFalse.isFalse.isFalse => exact .of_takeOffers (.of_fields rfl rfl)
  all_goals exact .refl

/-- The requests that end sessions: DETACH, EVICT and RESTART_HUB (R93, R111, R112). -/
theorem ending_watchMove {command : Request → State → Reply}
    (listed : command ∈ [detachReply, evictReply, restartHubReply]) (rq : Request) (s : State) :
    WatchMove s (command rq s).state := by
  have same : WatchMove s s := WatchesKept.refl.move
  simp only [List.mem_cons, List.not_mem_nil, or_false] at listed
  rcases listed with rfl | rfl | rfl
  all_goals
    refine ifAttached_state same ?_
    repeat' split
    all_goals try exact same
  · exact endSession_watchMove ..
  · exact endSession_watchMove ..
  · exact .of_blank rfl

/-- WATCH_INSTALL installs arguments in range for an ATTACHED caller, or changes nothing (R96, R97). -/
theorem watchInstall_watchMove (rq : Request) (s : State) : WatchMove s (watchInstallReply rq s).state := by
  have same : WatchMove s s := WatchesKept.refl.move
  unfold watchInstallReply ifAttached
  split
  · exact same
  · exact same
  rename_i attached
  split
  · exact same
  rename_i args parsed
  split
  · exact same
  · refine .of_set rfl rfl (.installed args rq.host (installArgs?_eq_some parsed).1 ?_ fun _ => id)
    rw [State.isAttached, attached]
    rfl

/-- WATCH_CANCEL frees an entry or changes nothing (R108). -/
theorem watchCancel_watchMove (rq : Request) (s : State) : WatchMove s (watchCancelReply rq s).state := by
  have same : WatchMove s s := WatchesKept.refl.move
  refine ifAttached_state same ?_
  dsimp only
  repeat' split
  case h_2.isFalse.isFalse => exact .of_set rfl rfl .freed
  all_goals exact same

/-- Every request, whatever its code (R188). -/
theorem commandOf_watchMove (code : Byte) (rq : Request) (s : State) :
    WatchMove s (commandOf code rq s).state := by
  change (fun command : Request → State → Reply => WatchMove s (command rq s).state) (commandOf code)
  unfold commandOf
  split
  case h_2 | h_3 | h_4 => exact ending_watchMove (by simp) rq s
  case h_20 => exact watchInstall_watchMove rq s
  case h_21 => exact watchCancel_watchMove rq s
  case h_1 | h_6 | h_8 | h_29 => exact (offering_watchesKept (by simp) rq s).move
  case h_16 | h_17 => exact (lineSet_watchesKept (by simp) rq s).move
  case h_12 | h_13 | h_15 | h_18 => exact (records_watchesKept (by simp) rq s).move
  all_goals exact (unrelated_watchesKept (by simp) rq s).move

theorem takeFrame_watchMoves (s : State) (h : HostId) (code tag : Byte) (payload : List Byte) :
    WatchMoves s (s.takeFrame h code tag payload) := by
  have restarted := restarted_watchesKept s h
  unfold State.takeFrame
  split
  · rw [State.takeRepeat, restartTimer_eq]
    exact WatchesKept.moves (restarted.trans (.of_fields rfl rfl))
  · rw [take_eq]
    have answered : ∀ (u : State) r, WatchesKept u (u.answered h r) := fun _ _ => .of_fields rfl rfl
    exact (restarted.moves.tail (commandOf_watchMove ..)).tail (answered _ _).move

/-! ### Events -/

/-- A due check changes its entry as the check of some sample does (R99 to R104). -/
theorem checkExpiry_watchMove (w : WatchId) (e : execCheckExpiry w s = .next t) : WatchMove s t := by
  unfold execCheckExpiry at e
  split at e
  · rename_i due
    have used : s.watches[w].state ≠ .free := by
      rw [Watch.checkDue, Bool.and_eq_true, bne_iff_ne] at due
      exact due.1
    have move := EntryMove.checked (before := s.isAttached) (after := s.isAttached)
      (s.watches[w].sampleOf s.settledLevels == s.watches[w].pattern) used fun _ => id
    dsimp only at e
    split at e <;> cases e <;> rename_i result <;> rw [result] at move
    · exact .of_set rfl rfl move
    · obtain ⟨watches, sessions⟩ := endWatch_watches s w .watchMatch _
      exact .of_set watches sessions move
    · obtain ⟨watches, sessions⟩ := endWatch_watches s w .watchTimeout Watch.blank
      exact .of_set watches sessions move
  · cases e

theorem tick_watchMove (event : TickEvent) (e : execTick event s = .next t) : WatchMove s t := by
  have handedOut : ∀ levels, WatchMove s (s.handOut levels) := fun levels =>
    ⟨(handTick_watchMove s levels).entry⟩
  unfold execTick at e
  repeat' split at e
  all_goals cases e
  · exact handedOut _
  · exact ⟨(handTick_watchMove s.count _).entry⟩
  · exact handedOut _
  · exact WatchesKept.move (.of_fields rfl rfl)

theorem timeWrap_watchMoves (levels : LineSet) (e : execTimeWrap levels s = .next t) : WatchMoves s t := by
  have wrap : ∀ u : State, WatchesKept u u.wrap := fun u => .of_offer (.of_fields rfl rfl)
  unfold execTimeWrap at e
  repeat' split at e
  all_goals cases e
  · exact (wrap s).moves
  · exact .tail (.single (handTick_watchMove s levels)) (wrap _).move

theorem qualificationStart_watchesKept (l : LineId) (e : execQualificationStart l s = .next t) :
    WatchesKept s t := by
  unfold execQualificationStart State.startQualification at e
  repeat' split at e
  all_goals cases e
  · exact qualifyEdge_watchesKept ..
  · exact .of_fields rfl rfl

theorem qualifiedEdge_watchesKept (l : LineId) (e : execQualifiedEdge l s = .next t) :
    WatchesKept s t := by
  unfold execQualifiedEdge at e
  split at e <;> split at e <;> cases e <;> exact qualifyEdge_watchesKept ..

theorem byteCompletes_watchMoves (h : HostId) (byte : Byte) (e : execByteCompletes h byte s = .next t) :
    WatchMoves s t := by
  have port : ∀ {v : State}, v.watches = s.watches → v.sessions = s.sessions → WatchMoves s v :=
    fun watches sessions => (WatchesKept.of_fields watches sessions).moves
  unfold execByteCompletes at e
  split at e <;> cases e
  · exact .refl
  · unfold State.receiveByte
    repeat' split
    case h_2.isFalse.isTrue => exact takeFrame_watchMoves ..
    all_goals exact port rfl rfl
  · exact port rfl rfl
  · unfold State.sendByte
    dsimp only
    repeat' split
    all_goals exact port rfl rfl
  · exact port rfl rfl

theorem request_watchMoves {i : Instr} {f : RequestFrame} (frame : i.frame? = some f)
    (e : exec i s = .next t) : WatchMoves s t := by
  rw [exec_request frame] at e
  split at e <;> cases e
  exact takeFrame_watchMoves ..

/-- What a command does to the Watch Table: moves of its entries. -/
theorem exec_watchMoves {c : Instr} (e : exec c s = .next t) : WatchMoves s t := by
  cases c
  case powerOnReset => cases e; exact .single (.of_blank rfl)
  case externalReset => cases e; exact .single (.of_blank rfl)
  case tick event => exact .single (tick_watchMove event e)
  case timeWrap levels => exact timeWrap_watchMoves levels e
  case qualificationStart l => exact (qualificationStart_watchesKept l e).moves
  case qualifiedEdge l => exact (qualifiedEdge_watchesKept l e).moves
  case checkExpiry w => exact .single (checkExpiry_watchMove w e)
  case supervisionExpiry h =>
    change execSupervisionExpiry h s = _ at e
    unfold execSupervisionExpiry at e
    split at e <;> cases e
    exact .single (endSession_watchMove ..)
  case byteCompletes h byte => exact byteCompletes_watchMoves h byte e
  case frameError | frameRefusedForLength | frameDiscarded | responseSent | glitch | pulseExpiry |
      selectFalls | selectRises =>
    simp only [exec, execFrameError, execFrameRefusedForLength, execFrameDiscarded, execResponseSent,
      execGlitch, execPulseExpiry, execSelectFalls, execSelectRises] at e
    repeat' split at e
    all_goals cases e
    all_goals exact WatchesKept.moves (.of_fields rfl rfl)
  all_goals exact request_watchMoves rfl e

end Sys2Proof.Machine
end

section
/-!
CLAIM. The laws of the Watch Table and of its entries' counts are kept by every step (O53).
-/

namespace Sys2Proof.Machine

variable {before after : HostId → Bool} {x y : Watch}

/-! ### The law of an entry's hosts (R95) -/

/-- The law of the Watch Table, of one entry: in use, its owner and its notify set are ATTACHED. -/
def Watch.HostLaw (attached : HostId → Bool) (x : Watch) : Prop :=
  x.state ≠ .free →
    (∃ h ∈ x.owner, attached h = true) ∧ ∀ h : HostId, holds x.notify h = true → attached h = true

theorem watchLaw_iff (s : State) : s.WatchLaw ↔ ∀ w : WatchId, s.watches[w].HostLaw s.isAttached := Iff.rfl

theorem blank_hostLaw (attached : HostId → Bool) : Watch.blank.HostLaw attached := fun used => absurd rfl used

/-- An entry that keeps its owner and notify set keeps the law while their hosts stay ATTACHED. -/
theorem Watch.HostLaw.stays (law : x.HostLaw before) (stay : ∀ h, before h = true → after h = true)
    (used : x.state ≠ .free) (owner : y.owner = x.owner) (notify : y.notify = x.notify) :
    y.HostLaw after := by
  intro _
  obtain ⟨⟨h, owns, attached⟩, notified⟩ := law used
  rw [owner, notify]
  exact ⟨⟨h, owns, stay h attached⟩, fun g member => stay g (notified g member)⟩

/-- An entry that host `h` leaves is another's, and keeps only other hosts in its notify set (R111, R112). -/
theorem leave_hostLaw {h : HostId} (law : x.HostLaw before)
    (others : ∀ g, g ≠ h → before g = true → after g = true) : (x.leave h).HostLaw after := by
  unfold Watch.leave
  split
  · exact blank_hostLaw after
  · rename_i notMine
    intro used
    obtain ⟨⟨g, owns, attached⟩, notified⟩ := law used
    have other : g ≠ h := by rintro rfl; exact notMine owns
    refine ⟨⟨g, owns, others g other attached⟩, fun k member => ?_⟩
    rw [holds_without, Bool.and_eq_true, bne_iff_ne] at member
    exact others k member.2 (notified k member.1)

theorem EntryMove.keeps_hostLaw (move : EntryMove before after x y) (law : x.HostLaw before) :
    y.HostLaw after := by
  cases move with
  | kept stay => exact fun used => law.stays stay used rfl rfl used
  | ticked stay =>
    intro used
    rw [watch_tick_eq] at used ⊢
    exact law.stays stay used rfl rfl used
  | freed => exact blank_hostLaw after
  | installed args owner _ attached stay =>
    refine fun _ => ⟨⟨owner, rfl, stay owner attached⟩, fun h member => stay h ?_⟩
    have named := (holds_and ..).symm.trans member
    rw [holds_setOf, Bool.and_eq_true] at named
    exact named.2
  | checked matching used stay =>
    rcases check_entry x matching with freed | ⟨_, _, _, _, same, _⟩
    · rw [freed]; exact blank_hostLaw after
    · rw [same]; exact law.stays stay used rfl rfl
  | left h others => exact leave_hostLaw law others

/-! ### The law of an entry's counts (R94) -/

theorem blank_countLaw : Watch.blank.CountLaw := by decide

/-- An entry in use that has made no match in a row, by its confirm count. -/
theorem countLaw_of_idle (state : x.state = .waiting ∨ x.state = .rearming) (idle : x.consecutive = 0#8)
    (confirm : 1 ≤ x.confirm.toNat ∧ x.confirm.toNat ≤ 16) : x.CountLaw := by
  refine ⟨fun free => ?_, fun confirming => ?_, fun _ => idle, fun _ => confirm⟩
  · rw [free] at state; simp at state
  · rw [confirming] at state; simp at state

/-- The confirm count of arguments in range (R96). -/
theorem inRange_confirm {args : InstallArgs} (inRange : args.inRange = true) :
    1 ≤ args.confirm.toNat ∧ args.confirm.toNat ≤ 16 := by
  simp only [InstallArgs.inRange, Bool.and_eq_true, bne_iff_ne, decide_eq_true_iff] at inRange
  obtain ⟨⟨⟨_, some_confirm⟩, most⟩, _⟩ := inRange
  exact ⟨Nat.pos_of_ne_zero fun zero => some_confirm (BitVec.eq_of_toNat_eq zero), most⟩

theorem tick_countLaw (law : x.CountLaw) : x.tick.CountLaw := by
  unfold Watch.tick
  split
  · exact law
  · rename_i used
    obtain ⟨_, confirming, idle, confirm⟩ := law
    exact ⟨fun free => absurd free used, confirming, idle, confirm⟩

/-- A host that leaves an entry changes its notify set at most, and none of a FREE entry (R112). -/
theorem leave_countLaw (h : HostId) (law : x.CountLaw) : (x.leave h).CountLaw := by
  unfold Watch.leave
  split
  · exact blank_countLaw
  · obtain ⟨free, confirming, idle, confirm⟩ := law
    refine ⟨fun state => ?_, confirming, idle, confirm⟩
    have empty : without 0#4 h = 0#4 := BitVec.zero_and
    rw [free state]
    exact congrArg (fun notify => { Watch.blank with notify := notify }) empty

/-- The matches in a row of an entry in use are below its confirm count (R94). -/
theorem consecutive_lt (law : x.CountLaw) (used : x.state ≠ .free) :
    x.consecutive.toNat < x.confirm.toNat ∧ x.confirm.toNat ≤ 16 := by
  obtain ⟨_, confirming, idle, confirm⟩ := law
  refine ⟨?_, (confirm used).2⟩
  have none_in_a_row : x.consecutive = 0#8 → x.consecutive.toNat < x.confirm.toNat := by
    intro zero
    rw [zero]
    exact (confirm used).1
  cases state : x.state with
  | free => exact absurd state used
  | waiting => exact none_in_a_row (idle (.inl state))
  | confirming => exact (confirming state).2
  | rearming => exact none_in_a_row (idle (.inr state))

/-- One more match in a row, when it is not the K-th, leaves them from 1 to K − 1 (R101). -/
theorem consecutive_succ (law : x.CountLaw) (used : x.state ≠ .free)
    (early : x.consecutive + 1#8 ≠ x.confirm) :
    1 ≤ (x.consecutive + 1#8).toNat ∧ (x.consecutive + 1#8).toNat < x.confirm.toNat := by
  obtain ⟨below, most⟩ := consecutive_lt law used
  have counted : (x.consecutive + 1#8).toNat = x.consecutive.toNat + 1 := by
    rw [BitVec.toNat_add]
    exact Nat.mod_eq_of_lt (by simp only [BitVec.toNat_ofNat]; omega)
  have different : x.consecutive.toNat + 1 ≠ x.confirm.toNat := fun same =>
    early (BitVec.eq_of_toNat_eq (counted.trans same))
  omega

/-- A check keeps the law of the counts (R101 to R104). -/
theorem check_countLaw (law : x.CountLaw) (used : x.state ≠ .free) (matching : Bool) :
    (x.check matching).entry.CountLaw := by
  have early := consecutive_succ law used
  obtain ⟨_, _, idle, confirm⟩ := law
  rcases check_entry x matching with freed | ⟨state, checks, consecutive, ticks, same, outcome⟩
  · rw [freed]; exact blank_countLaw
  rw [same]
  rcases outcome with ⟨idleState, rfl⟩ | ⟨idleState, rearming, rfl⟩ | ⟨rfl, rfl, unfinished⟩
  · exact countLaw_of_idle idleState rfl (confirm used)
  · exact countLaw_of_idle idleState (idle (.inr rearming)) (confirm used)
  · exact ⟨nofun, fun _ => early unfinished, by simp, fun _ => confirm used⟩

theorem EntryMove.keeps_countLaw (move : EntryMove before after x y) (law : x.CountLaw) : y.CountLaw := by
  cases move with
  | kept => exact law
  | ticked => exact tick_countLaw law
  | freed => exact blank_countLaw
  | installed args owner inRange => exact countLaw_of_idle (.inl rfl) rfl (inRange_confirm inRange)
  | checked matching used => exact check_countLaw law used matching
  | left h => exact leave_countLaw h law

/-! ### Every step -/

/-- What every move of an entry keeps of it, every step keeps of the Watch Table. -/
theorem step_keeps_entries {p : (HostId → Bool) → Watch → Prop}
    (keeps : ∀ {before after x y}, EntryMove before after x y → p before x → p after y) {s t : State}
    (law : ∀ w : WatchId, p s.isAttached s.watches[w]) (e : step s = .next t) :
    ∀ w : WatchId, p t.isAttached t.watches[w] := by
  refine step_keeps (p := fun u => ∀ w : WatchId, p u.isAttached u.watches[w]) (fun _ _ => id)
    (fun c u v law e => ?_) law e
  have moves := exec_watchMoves e
  clear e
  induction moves with
  | refl => exact law
  | tail _ last ih => exact fun w => keeps (last.entry w) (ih w)

/-- Settles O53: each law is one of every entry, and every move of an entry keeps it. -/
theorem stepKeepsTheWatchLaws : Obligations.StepKeepsTheWatchLaws :=
  ⟨fun _ _ law e => step_keeps_entries EntryMove.keeps_hostLaw law e,
    fun _ _ law e => step_keeps_entries (p := fun _ => Watch.CountLaw) EntryMove.keeps_countLaw law e⟩

end Sys2Proof.Machine
end

section
/-!
CLAIM. WATCH_INSTALL, WATCH_CANCEL and CHECK_EXPIRY (O39, O40, O41).
-/

namespace Sys2Proof.Machine

variable {s : State}

/-! ### WATCH_INSTALL (R96, R97) -/

/-- The checks of the argument fields, as R96 lists what it refuses. -/
theorem inRange_iff (a : InstallArgs) : a.inRange = true ↔
    ¬ (a.mask = 0#16 ∨ a.period = 0#16 ∨ a.confirm = 0#8 ∨ 16 < a.confirm.toNat ∨
      (a.deadline ≠ 0#16 ∧ a.deadline.toNat < a.confirm.toNat)) := by
  simp only [InstallArgs.inRange, Bool.and_eq_true, Bool.or_eq_true, bne_iff_ne, beq_iff_eq,
    decide_eq_true_iff, not_or, not_and_or, not_not, Nat.not_lt, ne_eq, and_assoc]

theorem freeWatch?_eq_none (used : ∀ w : WatchId, s.watches[w].state ≠ .free) : s.freeWatch? = none := by
  simp only [State.freeWatch?, List.find?_eq_none]
  intro w _
  simpa using used w

/-- Where an entry is FREE, the lowest one is found (R97). -/
theorem freeWatch?_lowest (free : ¬ ∀ w : WatchId, s.watches[w].state ≠ .free) :
    ∃ w, s.freeWatch? = some w ∧ s.watches[w].state = .free ∧
      ∀ v : WatchId, v < w → s.watches[v].state ≠ .free := by
  cases found : s.freeWatch? with
  | none =>
    refine absurd (fun w => ?_) free
    simp only [State.freeWatch?, List.find?_eq_none] at found
    simpa using found w (List.mem_finRange w)
  | some w =>
    refine ⟨w, rfl, freeWatch?_free found, fun v lower => ?_⟩
    obtain ⟨_, i, _, here, earlier⟩ := List.find?_eq_some_iff_getElem.mp found
    have number : i = w.val := by simpa using congrArg Fin.val here
    simpa using earlier v.val (number ▸ lower)

/-- What WATCH_INSTALL makes of the arguments its payload carries. -/
theorem watchInstall_answers {h : HostId} {tag : Byte} {a : InstallArgs}
    (awaits : s.awaits (.watchInstall h tag a.payload) = true) (attached : s.isAttached h = true) :
    if a.inRange = false then Refuses (.watchInstall h tag a.payload) s .badArg
    else if ∀ w : WatchId, s.watches[w].state ≠ .free then
      Refuses (.watchInstall h tag a.payload) s .tableFull
    else ∃ w : WatchId, s.watches[w].state = .free ∧
      (∀ v : WatchId, v < w → s.watches[v].state ≠ .free) ∧
      Answers (.watchInstall h tag a.payload) s
        { s.restarted h with watches := s.watches.set w (a.entry h s.attachedSet) } .ok
        [numberByte w.val, hostSetByte (a.notify &&& s.attachedSet)] := by
  have answers := attached_answers (i := .watchInstall h tag a.payload) (command := watchInstallReply) rfl rfl
    (fun _ _ => rfl) awaits attached
  have search : (s.restarted h).freeWatch? = s.freeWatch? := by
    unfold State.freeWatch?; rw [restarted_watches]
  dsimp only at answers
  rw [installArgs?_payload, search, restarted_attachedSet] at answers
  split
  · rename_i outside
    rw [outside] at answers
    exact answers
  rename_i inRange
  rw [if_pos (Bool.not_eq_false _ ▸ inRange)] at answers
  split
  · rename_i used
    rw [freeWatch?_eq_none used] at answers
    exact answers
  · rename_i free
    obtain ⟨w, found, state, lowest⟩ := freeWatch?_lowest free
    rw [found] at answers
    dsimp only [State.setWatch] at answers
    rw [restarted_watches] at answers
    exact ⟨w, state, lowest, answers⟩

/-- The arguments' payload as the statement spells it. -/
theorem installPayload_spelled (a : InstallArgs) : a.payload =
    a.tag :: halfBytes a.mask ++ halfBytes a.pattern ++ halfBytes a.period ++ [a.confirm] ++
      halfBytes a.deadline ++ [match a.mode with | .once => 0#8 | .repeating => 1#8, a.notify.setWidth 8] := by
  rw [InstallArgs.payload]
  cases a.mode <;> rfl

/-- Settles O39: the payload of arguments is read back, and no other payload is. -/
theorem watchInstallTakesTheLowestEntry : Obligations.WatchInstallTakesTheLowestEntry := by
  intro h wtag payload s awaits attached encoding
  refine ⟨fun tag mask pattern period confirm deadline mode notify encoded => ?_, fun other => ?_⟩
  · let a : InstallArgs := ⟨tag, mask, pattern, period, confirm, deadline, mode, notify⟩
    obtain rfl : payload = a.payload := encoded.trans (installPayload_spelled a).symm
    have answers := watchInstall_answers awaits attached
    split
    · rename_i refused
      rw [if_pos (Bool.eq_false_iff.mpr fun inRange => (inRange_iff a).mp inRange refused)] at answers
      exact answers
    rename_i accepted
    rw [if_neg (Bool.not_eq_false _ ▸ (inRange_iff a).mpr accepted)] at answers
    split
    · rename_i used
      rw [if_pos used] at answers
      exact answers
    · rename_i free
      rw [if_neg free] at answers
      obtain ⟨w, state, lowest, answers⟩ := answers
      refine ⟨w, a.notify &&& s.attachedSet, state, lowest, fun g => ?_, answers⟩
      rw [holds_and, State.attachedSet, holds_setOf, Bool.and_eq_true, State.isAttached, beq_iff_eq]
  · have answers := attached_answers (i := .watchInstall h wtag payload) (command := watchInstallReply) rfl rfl
      (fun _ _ => rfl) awaits attached
    cases parsed : installArgs? payload with
    | none =>
      dsimp only at answers
      rw [parsed] at answers
      exact answers
    | some a =>
      obtain ⟨_, encoded⟩ := installArgs?_eq_some parsed
      exact absurd (encoded.trans (installPayload_spelled a)) (other _ _ _ _ _ _ _ _)

/-! ### WATCH_CANCEL (R108) -/

/-- What WATCH_CANCEL makes of the index of an entry. -/
theorem watchCancel_answers {h : HostId} {tag index : Byte} {w : WatchId} (number : numbered 16 index = some w)
    (awaits : s.awaits (.watchCancel h tag [index]) = true) (attached : s.isAttached h = true) :
    if s.watches[w].state ≠ .free ∧ s.watches[w].owner ≠ some h ∧ s.isSupervisor h = false then
      Refuses (.watchCancel h tag [index]) s .notOwner
    else if s.watches[w].state = .free then Refuses (.watchCancel h tag [index]) s .noEntry
    else Answers (.watchCancel h tag [index]) s
      { s.restarted h with watches := s.watches.set w Watch.blank } .ok
      [s.watches[w].state.byte, ownerByte s.watches[w].owner, s.watches[w].tag] := by
  have answers := attached_answers (i := .watchCancel h tag [index]) (command := watchCancelReply) rfl rfl
    (fun _ _ => rfl) awaits attached
  dsimp only at answers
  rw [number] at answers
  dsimp only [State.setWatch] at answers
  rw [restarted_isSupervisor, restarted_watches] at answers
  split
  · rename_i others
    rw [if_pos others] at answers
    exact answers
  rename_i allowed
  rw [if_neg allowed] at answers
  split
  · rename_i free
    rw [if_pos free] at answers
    exact answers
  · rename_i used
    rw [if_neg used] at answers
    exact answers

/-- Settles O40, by the length of the payload and its index. -/
theorem watchCancelFreesTheEntry : Obligations.WatchCancelFreesTheEntry := by
  intro h tag payload s awaits attached
  have badArg := attached_answers (i := .watchCancel h tag payload) (command := watchCancelReply) rfl rfl
    (fun _ _ => rfl) awaits attached
  rcases payload with _ | ⟨index, _ | _⟩
  case cons.nil =>
    dsimp only
    split
    · rename_i fits
      have answers := watchCancel_answers (dif_pos fits) awaits attached
      simp only [not_isSupervisor_iff, ownerByte_eq] at answers
      exact answers
    · rename_i outside
      dsimp only at badArg
      rw [numbered, dif_neg outside] at badArg
      exact badArg
  all_goals exact badArg

/-! ### CHECK_EXPIRY (R99 to R104) -/

section Check

variable {w : WatchId} {sample : LineSet}

/-- The sample of a check holds the lines of the mask whose settled level is HIGH (R100). -/
theorem sampleOf_eq {x : Watch} (members : ∀ l : LineId, holds sample l = true ↔
      holds x.mask l = true ∧ s.lines[l].settled = .high) : x.sampleOf s.settledLevels = sample := by
  refine set_ext fun l => Bool.eq_iff_iff.mpr ?_
  rw [Watch.sampleOf, holds_and, Bool.and_eq_true, holds_settledLevels, members, and_comm]

theorem checkDue_iff (x : Watch) : x.checkDue = true ↔ x.state ≠ .free ∧ x.ticks = 0 := by
  rw [Watch.checkDue, Bool.and_eq_true, bne_iff_ne, beq_iff_eq]

/-- A due check after which the entry goes on (R101, R104). -/
theorem checkExpiry_goesOn {after : Watch} (due : s.watches[w].checkDue = true)
    (result : s.watches[w].check (s.watches[w].sampleOf s.settledLevels == s.watches[w].pattern) =
      .goesOn after) :
    exec (.checkExpiry w) s = .next { s with watches := s.watches.set w after } := by
  change execCheckExpiry w s = _
  rw [execCheckExpiry, if_pos due]
  dsimp only
  rw [result]
  rfl

/-- A due check that ends the entry in a match (R102). -/
theorem checkExpiry_matched {after : Watch} (due : s.watches[w].checkDue = true)
    (result : s.watches[w].check (s.watches[w].sampleOf s.settledLevels == s.watches[w].pattern) =
      .matched after) :
    exec (.checkExpiry w) s = .next (s.endWatch w .watchMatch after) := by
  change execCheckExpiry w s = _
  rw [execCheckExpiry, if_pos due]
  dsimp only
  rw [result]

/-- A due check that ends the entry in a timeout (R103). -/
theorem checkExpiry_timedOut (due : s.watches[w].checkDue = true)
    (result : s.watches[w].check (s.watches[w].sampleOf s.settledLevels == s.watches[w].pattern) =
      .timedOut) :
    exec (.checkExpiry w) s = .next (s.endWatch w .watchTimeout Watch.blank) := by
  change execCheckExpiry w s = _
  rw [execCheckExpiry, if_pos due]
  dsimp only
  rw [result]

/-- The end of an entry whose owner is ATTACHED: the entry's change, the offer, and the WATCH cause (R102,
R103, R105). -/
theorem endWatch_eq {g : HostId} (kind : Kind) (after : Watch) (owner : s.watches[w].owner = some g)
    (attached : s.isAttached g = true) :
    let t := ({ s with watches := s.watches.set w after }.offer
      ⟨kind, .watch w, s.hubTime, .watch s.watches[w].tag (s.watches[w].sampleOf s.settledLevels)
        (saturate s.watches[w].checks), s.watches[w].notify⟩).1
    s.endWatch w kind after =
      { t with attention := t.attention.set g (postedAttention t.attention[g] 0x08#5) } := by
  intro t
  have state : t.sessions[g].state = .attached := by
    simpa [t, State.isAttached] using attached
  have ends : s.endWatch w kind after = t.post g .watch := by
    unfold State.endWatch
    dsimp only
    rw [owner]
    rfl
  rw [ends, State.post, post_attached state (by decide)]
  rfl

end Check

/-- Settles O41: each outcome of the statement is one case of the check. -/
theorem checkExpiryMakesOneCheck : Obligations.CheckExpiryMakesOneCheck := by
  intro w s g sample e used ticks owner attached members checks next goesOn ends
  have due : e.checkDue = true := (checkDue_iff e).mpr ⟨used, ticks⟩
  obtain rfl : e.sampleOf s.settledLevels = sample := sampleOf_eq members
  generalize matching : (e.sampleOf s.settledLevels == e.pattern) = m
  have on : ∀ x, e.check m = .goesOn x → goesOn x := fun x result =>
    checkExpiry_goesOn due (matching ▸ result)
  have matched : ∀ x, e.check m = .matched x → ends .watchMatch x := fun x result =>
    (checkExpiry_matched due (matching ▸ result)).trans
      (congrArg Host.Outcome.next (endWatch_eq .watchMatch x owner attached))
  have timedOut : e.check m = .timedOut → ends .watchTimeout Watch.blank := fun result =>
    (checkExpiry_timedOut due (matching ▸ result)).trans
      (congrArg Host.Outcome.next (endWatch_eq .watchTimeout Watch.blank owner attached))
  have same_iff : e.sampleOf s.settledLevels = e.pattern ↔ m = true := by rw [← matching, beq_iff_eq]
  simp only [same_iff]
  clear matching same_iff
  split
  · rename_i rearming
    have result := check_rearming rearming m
    split <;> rename_i same
    · rw [if_pos same] at result
      exact on _ result
    · rw [if_neg same] at result
      exact on _ result
  rename_i active
  split
  · rename_i last
    obtain ⟨rfl, kth⟩ := last
    exact matched _ (check_lastMatch active kth)
  rename_i unfinished
  split
  · exact timedOut (check_deadline active unfinished ‹_›)
  rename_i running
  split <;> rename_i same
  · subst same
    exact on _ (check_match active (fun kth => unfinished ⟨rfl, kth⟩) running)
  · rw [Bool.not_eq_true] at same
    subst same
    exact on _ (check_mismatch active running)

end Sys2Proof.Machine
end

section
/-!
SUPPORT. OutputMove: what one command can do to each output (R116, R117, R119 to R122, R124 to R126, R130,
R132, R134 to R136).
-/

namespace Sys2Proof.Machine

variable {s t u : State}

/-! ### The move of one output -/

/-- What one command can make of an output `x`. It is driven, pulsed or bound only while it has an owner. -/
inductive OutputMove (x : Output) : Output → Prop
  | kept : OutputMove x x
  | ticked : OutputMove x x.tick
  | reset : OutputMove x { owner := none, drive := .low, safe := .low, pulse := none, binding := none }
  | released : OutputMove x x.release
  | claimed (h : HostId) : OutputMove x (x.claim h)
  | driven (level : Level) (owned : x.owner ≠ none) (idle : x.pulse = none) :
      OutputMove x { x with drive := level }
  | pulsed (level : Level) (duration : Half) (owned : x.owner ≠ none) (change : level ≠ x.drive) :
      OutputMove x (x.startPulse level duration)
  | bound (binding : Option Binding) (owned : x.owner ≠ none) : OutputMove x { x with binding := binding }
  | seized (h : HostId) : OutputMove x (x.seize h)
  | madeSafe (level : Level) : OutputMove x (x.putSafe level)
  | expired (p : Pulse) (inFlight : x.pulse = some p) :
      OutputMove x { x with drive := p.returnLevel, pulse := none }
  | fired : OutputMove x x.fire

/-- Every output makes a move. -/
structure OutputMoves (s t : State) : Prop where
  output : ∀ o : OutputId, OutputMove s.outputs[o] t.outputs[o]

/-! ### Changes of the outputs -/

theorem OutputMoves.of_eq (same : t.outputs = s.outputs) : OutputMoves s t :=
  ⟨fun _ => by rw [same]; exact .kept⟩

theorem OutputMoves.refl : OutputMoves s s := .of_eq rfl

/-- What leaves the outputs may come before a move. -/
theorem OutputMoves.after_eq (moves : OutputMoves t u) (same : t.outputs = s.outputs) : OutputMoves s u :=
  ⟨fun o => by rw [← same]; exact moves.output o⟩

/-- What leaves the outputs may come after a move. -/
theorem OutputMoves.then_eq (moves : OutputMoves s t) (same : u.outputs = t.outputs) : OutputMoves s u :=
  ⟨fun o => by rw [same]; exact moves.output o⟩

theorem OutputMoves.of_map {f : Output → Output} (outputs : t.outputs = s.outputs.map f)
    (move : ∀ x, OutputMove x (f x)) : OutputMoves s t :=
  ⟨fun o => by rw [outputs, map_getElem]; exact move _⟩

theorem OutputMoves.of_mapOutputs {outs : OutputSet} (f : OutputId → Output → Output)
    (move : ∀ o : OutputId, holds outs o = true → OutputMove s.outputs[o] (f o s.outputs[o])) :
    OutputMoves s (s.mapOutputs outs f) := by
  refine ⟨fun o => ?_⟩
  rw [mapOutputs_getElem]
  split
  · exact move o ‹_›
  · exact .kept

theorem OutputMoves.of_setOutput {o : OutputId} {x : Output} (move : OutputMove s.outputs[o] x) :
    OutputMoves s (s.setOutput o x) := by
  refine ⟨fun o' => ?_⟩
  by_cases e : o' = o
  · subst e; simpa using move
  · rw [State.setOutput, set_getElem_other _ _ e]; exact .kept

/-! ### Operations that leave the outputs -/

theorem takeOffers_outputs (s : State) (offers : List Offer) : (s.takeOffers offers).outputs = s.outputs := by
  rw [takeOffers_frame]

theorem removeOldest_outputs (s : State) (h : HostId) (n : Nat) :
    (s.removeOldest h n).outputs = s.outputs := by
  induction n generalizing s with
  | zero => rfl
  | succ n ih => rw [State.removeOldest, ih, removeHead_frame]

theorem showRecord_outputs (s : State) (i : SlotId) : (s.showRecord i).outputs = s.outputs := by
  rw [showRecord_frame]

theorem dropFoldRefs_outputs (s : State) (l : LineId) : (s.dropFoldRefs l).outputs = s.outputs := by
  have one : ∀ (u : State) k, (u.dropFoldRef l k).outputs = u.outputs := fun u k => by
    rw [dropFoldRef_frame]
  exact (one _ .fall).trans (one s .rise)

theorem recordEdge_outputs (s : State) (l : LineId) (k : EdgeKind) (t0 : HubTime) (snapshot : LineSet) :
    (s.recordEdge l k t0 snapshot).outputs = s.outputs := by
  rw [recordEdge_frame]

theorem foldl_outputs {α : Type} {f : State → α → State} (kept : ∀ u x, (f u x).outputs = u.outputs)
    (xs : List α) (s : State) : (xs.foldl f s).outputs = s.outputs := by
  induction xs generalizing s with
  | nil => rfl
  | cons x xs ih => exact (ih _).trans (kept s x)

theorem endWatch_outputs (s : State) (w : WatchId) (kind : Kind) (after : Watch) :
    (s.endWatch w kind after).outputs = s.outputs := by
  unfold State.endWatch
  dsimp only
  split <;> exact offer_outputs ..

theorem wrap_outputs (s : State) : s.wrap.outputs = s.outputs := offer_outputs ..

/-! ### Operations on the outputs -/

theorem handTick_outputMoves (s : State) (levels : LineSet) : OutputMoves s (s.handTick levels) :=
  .of_map rfl fun _ => .ticked

/-- A report changes the outputs as its reflexes do (R126). -/
theorem reportEdge_outputMoves (s : State) (l : LineId) (k : EdgeKind) (t0 : HubTime) (snapshot : LineSet) :
    OutputMoves s (s.reportEdge l k t0 snapshot) := by
  have fired : OutputMoves s (s.fireReflexes l k) := .of_map rfl fun x => by
    split
    · exact .fired
    · exact .kept
  obtain ⟨draws, n, report⟩ := reportEdge_eq s l k t0 snapshot
  rw [report]
  exact fired.then_eq (by rw [takeOffers_outputs, recordEdge_outputs, takeOffers_outputs])

theorem qualifyEdge_outputMoves (s : State) (l : LineId) (t0 : HubTime) :
    OutputMoves s (s.qualifyEdge l t0) := by
  have flipped : (s.setLine l (s.lines[l].qualify t0)).outputs = s.outputs := rfl
  unfold State.qualifyEdge
  dsimp only
  refine OutputMoves.then_eq ?_ (setLine_outputs ..)
  split
  · exact (reportEdge_outputMoves ..).after_eq flipped
  · exact .of_eq flipped

/-- A session end releases what the host owned (R134). -/
theorem endSession_outputMoves (s : State) (h : HostId) (c : EndCause) :
    OutputMoves s (s.endSession h c) := by
  refine OutputMoves.then_eq (t := (s.setSession h (s.sessions[h].ended c)).teardown h) ?_ (offer_outputs ..)
  refine .of_map (f := fun x => if x.owner = some h then x.release else x) ?_ fun x => ?_
  · rw [State.teardown, removeOldest_outputs]
    rfl
  · split
    · exact .released
    · exact .kept

end Sys2Proof.Machine
end

section
/-!
SUPPORT. The moves of the outputs at each request and each event.
-/

namespace Sys2Proof.Machine

variable {s t u : State}

/-! ### Requests of the other blocks -/

/-- The requests that make no offer and concern no record, no session and no output. -/
theorem unrelated_outputs {command : Request → State → Reply}
    (listed : command ∈ [hubStatusReply, readTimeReply, unknownReply, subscribeLinesReply,
      subscribeHubReply, readSubscriptionsReply, queueStatusReply, lineArmReply, lineDisarmReply,
      lineStatusReply, watchInstallReply, watchCancelReply, watchReadReply, outStatusReply,
      setAttentionReply, clearAttentionReply]) (rq : Request) (s : State) :
    (command rq s).state.outputs = s.outputs := by
  simp only [List.mem_cons, List.not_mem_nil, or_false] at listed
  rcases listed with rfl | rfl | rfl | listed
  · unfold hubStatusReply; split <;> rfl
  · unfold readTimeReply; split <;> rfl
  · rfl
  rcases listed with rfl | rfl | rfl | rfl | rfl | rfl | rfl | rfl | rfl | rfl | rfl | rfl | rfl
  all_goals
    refine ifAttached_state (p := fun u => u.outputs = s.outputs) rfl ?_
    try dsimp only
    repeat' split
    all_goals rfl

/-- The requests that show or free records, or drop fold references. -/
theorem records_outputs {command : Request → State → Reply}
    (listed : command ∈ [readEventsReply, ackEventsReply, lineConfigureReply, lineReleaseReply])
    (rq : Request) (s : State) : (command rq s).state.outputs = s.outputs := by
  simp only [List.mem_cons, List.not_mem_nil, or_false] at listed
  rcases listed with rfl | rfl | rfl | rfl
  all_goals
    refine ifAttached_state (p := fun u => u.outputs = s.outputs) rfl ?_
    try dsimp only
    repeat' split
    all_goals try rfl
  · exact foldl_outputs (fun u (e : Entry) => showRecord_outputs u e.slot) ..
  · exact removeOldest_outputs ..
  · exact dropFoldRefs_outputs ..
  · exact foldl_outputs dropFoldRefs_outputs ..

/-- The requests that make one offer and end no session. -/
theorem offering_outputs {command : Request → State → Reply}
    (listed : command ∈ [attachReply, sendNoteReply, adjustTimeReply]) (rq : Request) (s : State) :
    (command rq s).state.outputs = s.outputs := by
  simp only [List.mem_cons, List.not_mem_nil, or_false] at listed
  rcases listed with rfl | rfl | rfl
  · unfold attachReply
    repeat' split
    case h_1 => exact offer_outputs ..
    all_goals rfl
  all_goals
    refine ifAttached_state (p := fun u => u.outputs = s.outputs) rfl ?_
    try dsimp only
    repeat' split
  case h_2.isFalse.isFalse =>
    unfold noteReply
    split
    · rfl
    · rfl
    · exact offer_outputs ..
    · exact offer_outputs ..
  case h_1.isFalse.isFalse => exact offer_outputs ..
  all_goals rfl

/-- The requests that end sessions: DETACH, EVICT and RESTART_HUB (R134, R136). -/
theorem ending_outputMoves {command : Request → State → Reply}
    (listed : command ∈ [detachReply, evictReply, restartHubReply]) (rq : Request) (s : State) :
    OutputMoves s (command rq s).state := by
  simp only [List.mem_cons, List.not_mem_nil, or_false] at listed
  rcases listed with rfl | rfl | rfl
  all_goals
    refine ifAttached_state (p := OutputMoves s) .refl ?_
    repeat' split
    all_goals try exact .refl
  · exact endSession_outputMoves ..
  · exact endSession_outputMoves ..
  · exact .of_map rfl fun _ => .released

/-! ### Requests of the Output Block -/

theorem outClaim_outputMoves (rq : Request) (s : State) : OutputMoves s (outClaimReply rq s).state := by
  refine ifAttached_state (p := OutputMoves s) .refl ?_
  repeat' split
  case h_1.isFalse.isFalse => exact .of_mapOutputs (fun _ o => o.claim rq.host) fun _ _ => .claimed _
  all_goals exact .refl

theorem outRelease_outputMoves (rq : Request) (s : State) : OutputMoves s (outReleaseReply rq s).state := by
  refine ifAttached_state (p := OutputMoves s) .refl ?_
  repeat' split
  case h_1.isFalse.isFalse => exact .of_mapOutputs (fun _ o => o.release) fun _ _ => .released
  all_goals exact .refl

/-- OUT_DRIVE drives outputs that the caller owns and that have no pulse in flight (R120). -/
theorem outDrive_outputMoves (rq : Request) (s : State) : OutputMoves s (outDriveReply rq s).state := by
  refine ifAttached_state (p := OutputMoves s) .refl ?_
  repeat' split
  case h_1.isFalse.isFalse.isFalse =>
    rename_i outs levels _ _ own idle
    refine .of_mapOutputs (fun i o => { o with drive := Level.ofBit (holds levels i) }) fun o member =>
      .driven _ ?_ ?_
    · rw [owner_of_anyOutput own member]; nofun
    · simpa using anyOutput_absent idle member
  all_goals exact .refl

/-- The requests on one output, which the caller owns (R121, R124, R125). -/
theorem oneOutput_outputMoves {command : Request → State → Reply}
    (listed : command ∈ [outPulseReply, outBindReply, outUnbindReply]) (rq : Request) (s : State) :
    OutputMoves s (command rq s).state := by
  have owned : ∀ {o : OutputId}, ¬ s.outputs[o].owner ≠ some rq.host → s.outputs[o].owner ≠ none := by
    intro o own
    rw [not_not.mp own]
    nofun
  simp only [List.mem_cons, List.not_mem_nil, or_false] at listed
  rcases listed with rfl | rfl | rfl
  all_goals
    refine ifAttached_state (p := OutputMoves s) .refl ?_
    try dsimp only
    repeat' split
    all_goals try exact .refl
  · rename_i change own _
    exact .of_setOutput (.pulsed _ _ (owned own) change)
  · exact .of_setOutput (.bound _ (owned ‹_›))
  · exact .of_setOutput (.bound _ (owned ‹_›))

theorem outSeize_outputMoves (rq : Request) (s : State) : OutputMoves s (outSeizeReply rq s).state := by
  refine ifAttached_state (p := OutputMoves s) .refl ?_
  repeat' split
  case h_1.isFalse.isFalse.isFalse =>
    rename_i outs _ _ _ _
    have seized : OutputMoves (s.postSeized rq.host outs)
        ((s.postSeized rq.host outs).mapOutputs outs fun _ o => o.seize rq.host) :=
      .of_mapOutputs (fun _ o => o.seize rq.host) fun _ _ => .seized _
    exact (seized.after_eq (postSeized_outputs ..)).then_eq (takeOffers_outputs ..)
  all_goals exact .refl

theorem outSafe_outputMoves (rq : Request) (s : State) : OutputMoves s (outSafeReply rq s).state := by
  refine ifAttached_state (p := OutputMoves s) .refl ?_
  repeat' split
  case h_1.isFalse.isFalse =>
    rename_i outs levels _ _ _
    exact .of_mapOutputs (fun i o => o.putSafe (Level.ofBit (holds levels i))) fun _ _ => .madeSafe _
  all_goals exact .refl

/-- Every request, whatever its code (R188). -/
theorem commandOf_outputMoves (code : Byte) (rq : Request) (s : State) :
    OutputMoves s (commandOf code rq s).state := by
  change (fun command : Request → State → Reply => OutputMoves s (command rq s).state) (commandOf code)
  unfold commandOf
  split
  case h_2 | h_3 | h_4 => exact ending_outputMoves (by simp) rq s
  case h_1 | h_6 | h_8 => exact .of_eq (offering_outputs (by simp) rq s)
  case h_12 | h_13 | h_15 | h_18 => exact .of_eq (records_outputs (by simp) rq s)
  case h_23 => exact outClaim_outputMoves rq s
  case h_24 => exact outRelease_outputMoves rq s
  case h_25 => exact outDrive_outputMoves rq s
  case h_26 | h_27 | h_28 => exact oneOutput_outputMoves (by simp) rq s
  case h_29 => exact outSeize_outputMoves rq s
  case h_30 => exact outSafe_outputMoves rq s
  all_goals exact .of_eq (unrelated_outputs (by simp) rq s)

theorem takeFrame_outputMoves (s : State) (h : HostId) (code tag : Byte) (payload : List Byte) :
    OutputMoves s (s.takeFrame h code tag payload) := by
  unfold State.takeFrame
  split
  · rw [State.takeRepeat, restartTimer_eq]
    exact .of_eq (restarted_outputs s h)
  · rw [take_eq]
    exact ((commandOf_outputMoves ..).after_eq (restarted_outputs s h)).then_eq (answered_outputs ..)

/-! ### Events -/

theorem tick_outputMoves (event : TickEvent) (e : execTick event s = .next t) : OutputMoves s t := by
  have handedOut : ∀ levels, OutputMoves s (s.handOut levels) := fun levels =>
    (handTick_outputMoves s levels).then_eq (handOut_outputs s levels)
  have counted : s.count.outputs = s.outputs := count_outputs s
  unfold execTick at e
  repeat' split at e
  all_goals cases e
  · exact handedOut _
  · exact (handTick_outputMoves s.count _).after_eq counted
  · exact handedOut _
  · exact .of_eq counted

theorem timeWrap_outputMoves (levels : LineSet) (e : execTimeWrap levels s = .next t) : OutputMoves s t := by
  unfold execTimeWrap at e
  repeat' split at e
  all_goals cases e
  · exact .of_eq (wrap_outputs s)
  · exact (handTick_outputMoves s levels).then_eq (wrap_outputs _)

theorem qualificationStart_outputMoves (l : LineId) (e : execQualificationStart l s = .next t) :
    OutputMoves s t := by
  unfold execQualificationStart State.startQualification at e
  repeat' split at e
  all_goals cases e
  · exact qualifyEdge_outputMoves ..
  · exact .of_eq rfl

theorem qualifiedEdge_outputMoves (l : LineId) (e : execQualifiedEdge l s = .next t) : OutputMoves s t := by
  unfold execQualifiedEdge at e
  split at e <;> split at e <;> cases e <;> exact qualifyEdge_outputMoves ..

theorem checkExpiry_outputs (w : WatchId) (e : execCheckExpiry w s = .next t) : t.outputs = s.outputs := by
  unfold execCheckExpiry at e
  dsimp only at e
  repeat' split at e
  all_goals cases e
  · rfl
  · exact endWatch_outputs ..
  · exact endWatch_outputs ..

theorem pulseExpiry_outputMoves (o : OutputId) (e : execPulseExpiry o s = .next t) : OutputMoves s t := by
  unfold execPulseExpiry at e
  split at e
  · cases e
  rename_i p inFlight
  split at e <;> cases e
  exact .of_setOutput (.expired p inFlight)

theorem byteCompletes_outputMoves (h : HostId) (byte : Byte) (e : execByteCompletes h byte s = .next t) :
    OutputMoves s t := by
  unfold execByteCompletes at e
  split at e <;> cases e
  case h_2 =>
    unfold State.receiveByte
    repeat' split
    case h_2.isFalse.isTrue => exact takeFrame_outputMoves ..
    all_goals exact .of_eq rfl
  case h_4 =>
    unfold State.sendByte
    dsimp only
    repeat' split
    all_goals exact .of_eq rfl
  all_goals exact .of_eq rfl

theorem request_outputMoves {i : Instr} {f : RequestFrame} (frame : i.frame? = some f)
    (e : exec i s = .next t) : OutputMoves s t := by
  rw [exec_request frame] at e
  split at e <;> cases e
  exact takeFrame_outputMoves ..

/-- What a command does to the outputs: one move of each. -/
theorem exec_outputMoves {c : Instr} (e : exec c s = .next t) : OutputMoves s t := by
  cases c
  case powerOnReset | externalReset =>
    cases e
    refine ⟨fun o => ?_⟩
    simp only [State.hardReset, Fin.getElem_fin, Vector.getElem_replicate]
    exact .reset
  case tick event => exact tick_outputMoves event e
  case timeWrap levels => exact timeWrap_outputMoves levels e
  case qualificationStart l => exact qualificationStart_outputMoves l e
  case qualifiedEdge l => exact qualifiedEdge_outputMoves l e
  case checkExpiry w => exact .of_eq (checkExpiry_outputs w e)
  case pulseExpiry o => exact pulseExpiry_outputMoves o e
  case supervisionExpiry h =>
    change execSupervisionExpiry h s = _ at e
    unfold execSupervisionExpiry at e
    split at e <;> cases e
    exact endSession_outputMoves ..
  case byteCompletes h byte => exact byteCompletes_outputMoves h byte e
  case frameError | frameRefusedForLength | frameDiscarded | responseSent | glitch | selectFalls |
      selectRises =>
    simp only [exec, execFrameError, execFrameRefusedForLength, execFrameDiscarded, execResponseSent,
      execGlitch, execSelectFalls, execSelectRises] at e
    repeat' split at e
    all_goals cases e
    all_goals exact .of_eq rfl
  all_goals exact request_outputMoves rfl e

end Sys2Proof.Machine
end

section
/-!
CLAIM. The law of the Output Block and the levels of a pulse in flight are kept by every step (O54).
-/

namespace Sys2Proof.Machine

variable {x y : Output}

/-- What the manual says of one output (R115, R116). -/
def Output.Law (x : Output) : Prop := x.OwnerLaw ∧ x.PulseLaw

/-- The law of the Output Block says nothing of an output with an owner. -/
theorem ownerLaw_of_owned (owned : x.owner ≠ none) : x.OwnerLaw := fun free => absurd free owned

/-- An output without a pulse keeps the law of a pulse in flight. -/
theorem pulseLaw_of_idle (idle : x.pulse = none) : x.PulseLaw := by
  intro p inFlight
  rw [idle] at inFlight
  cases inFlight

/-- An output that drives its safe level, with no pulse and no binding, keeps the law whoever owns it. -/
theorem law_of_safe (safe : x.drive = x.safe) (idle : x.pulse = none) (unbound : x.binding = none) : x.Law :=
  ⟨fun _ => ⟨safe, idle, unbound⟩, pulseLaw_of_idle idle⟩

/-- An output with an owner and no pulse keeps the law whatever it drives. -/
theorem law_of_owned_idle (owned : x.owner ≠ none) (idle : x.pulse = none) : x.Law :=
  ⟨ownerLaw_of_owned owned, pulseLaw_of_idle idle⟩

/-- An output with a pulse in flight has an owner (R116). -/
theorem owned_of_pulse (law : x.Law) {p : Pulse} (inFlight : x.pulse = some p) : x.owner ≠ none := by
  intro free
  obtain ⟨_, idle, _⟩ := law.1 free
  rw [idle] at inFlight
  cases inFlight

/-- A bound output has an owner (R116). -/
theorem owned_of_binding (law : x.Law) {b : Binding} (bound : x.binding = some b) : x.owner ≠ none := by
  intro free
  obtain ⟨_, _, unbound⟩ := law.1 free
  rw [unbound] at bound
  cases bound

/-- A tick counts a pulse in flight and changes nothing else of the output (R122). -/
theorem output_tick_law (law : x.Law) : x.tick.Law := by
  obtain ⟨ownerLaw, pulseLaw⟩ := law
  refine ⟨fun free => ?_, fun p inFlight => ?_⟩
  · obtain ⟨safe, idle, unbound⟩ := ownerLaw free
    exact ⟨safe, by rw [Output.tick, idle]; rfl, unbound⟩
  · obtain ⟨q, before, rfl⟩ := Option.map_eq_some_iff.mp inFlight
    exact pulseLaw q before

theorem claim_law (h : HostId) (law : x.Law) : (x.claim h).Law := by
  unfold Output.claim
  split
  · exact law
  · exact ⟨ownerLaw_of_owned nofun, law.2⟩

theorem eq_other_of_ne {a b : Level} (differ : b ≠ a) : a = b.other := by
  revert differ
  cases a <;> cases b <;> decide

/-- A pulse of the level that the output does not drive returns to the other one (R115, R121). -/
theorem startPulse_law {level : Level} (duration : Half) (owned : x.owner ≠ none)
    (change : level ≠ x.drive) : (x.startPulse level duration).Law := by
  refine ⟨ownerLaw_of_owned owned, fun p inFlight => ?_⟩
  cases inFlight
  exact ⟨rfl, eq_other_of_ne change⟩

theorem seize_law (h : HostId) (law : x.Law) : (x.seize h).Law := by
  unfold Output.seize
  split
  · exact ⟨ownerLaw_of_owned nofun, law.2⟩
  · split
    · exact law
    · exact law_of_owned_idle nofun rfl

theorem putSafe_law (level : Level) (law : x.Law) : (x.putSafe level).Law := by
  unfold Output.putSafe
  split
  · rename_i free
    obtain ⟨_, idle, unbound⟩ := law.1 free
    exact law_of_safe rfl idle unbound
  · rename_i owned
    exact ⟨ownerLaw_of_owned (by rw [owned]; nofun), law.2⟩

theorem fire_law (law : x.Law) : x.fire.Law := by
  unfold Output.fire
  split
  · exact law
  · rename_i bound
    have owned := owned_of_binding law bound
    exact law_of_owned_idle owned rfl

theorem OutputMove.keeps_law (move : OutputMove x y) (law : x.Law) : y.Law := by
  cases move with
  | kept => exact law
  | ticked => exact output_tick_law law
  | reset => exact law_of_safe rfl rfl rfl
  | released => exact law_of_safe rfl rfl rfl
  | claimed h => exact claim_law h law
  | driven level owned idle => exact law_of_owned_idle owned idle
  | pulsed level duration owned change => exact startPulse_law duration owned change
  | bound binding owned => exact ⟨ownerLaw_of_owned owned, law.2⟩
  | seized h => exact seize_law h law
  | madeSafe level => exact putSafe_law level law
  | expired p inFlight =>
    have owned := owned_of_pulse law inFlight
    exact law_of_owned_idle owned rfl
  | fired => exact fire_law law

/-- Settles O54: a command makes one move of each output, and every move keeps the law of its output. -/
theorem stepKeepsTheOutputLaws : Obligations.StepKeepsTheOutputLaws := fun _ _ law e =>
  step_keeps (p := fun s => ∀ o : OutputId, s.outputs[o].Law) (fun _ _ => id)
    (fun _ _ _ law e o => ((exec_outputMoves e).output o).keeps_law (law o)) law e

end Sys2Proof.Machine
end

section
/-!
SUPPORT. The reply of a request row, taken apart stage by stage in the check order (R182).
-/

namespace Sys2Proof.Machine

variable {s : State} {h : HostId}

/-- The request row `i`, taken in state `s`, is answered as the reply says (R180, R184). -/
def AnsweredWith (i : Instr) (s : State) (r : Reply) : Prop := Answers i s r.state r.status r.payload

theorem attached_answeredWith {i : Instr} {f : RequestFrame} {command behind : Request → State → Reply}
    (frame : i.frame? = some f) (row : exec i s = takeRow f.code command f.host f.tag f.payload s)
    (stage : ∀ rq u, command rq u = ifAttached rq u (behind rq u)) (awaits : s.awaits i = true)
    (attached : s.isAttached f.host = true) :
    AnsweredWith i s (behind ⟨f.host, s.hubTime, f.payload⟩ (s.restarted f.host)) :=
  attached_answers frame row stage awaits attached

/-- A reply that refuses is a refusal. -/
theorem AnsweredWith.refuses {i : Instr} {status : Status}
    (answers : AnsweredWith i s (refuse (s.restarted h) status))
    (caller : i.frame?.map RequestFrame.host = some h) : Refuses i s status := by
  obtain ⟨f, frame, rfl⟩ := Option.map_eq_some_iff.mp caller
  simp only [Refuses, frame]
  exact answers

/-- One stage of the check order: where its check finds something the request is refused, and elsewhere the
next stage decides (R182). -/
theorem AnsweredWith.stage {i : Instr} {status : Status} {next : Reply} {c found p : Prop}
    [Decidable c] [Decidable found]
    (answers : AnsweredWith i s (if found then refuse (s.restarted h) status else next))
    (caller : i.frame?.map RequestFrame.host = some h) (check : found ↔ c)
    (passed : ¬ c → AnsweredWith i s next → p) : if c then Refuses i s status else p := by
  split
  · rename_i refused
    rw [if_pos (check.mpr refused)] at answers
    exact answers.refuses caller
  · rename_i accepted
    rw [if_neg (accepted ∘ check.mp)] at answers
    exact passed accepted answers

end Sys2Proof.Machine
end

section
/-!
CLAIM. The requests over sets of outputs: OUT_CLAIM, OUT_RELEASE, OUT_DRIVE, OUT_SAFE and OUT_SEIZE (O42, O45,
O46).
-/

namespace Sys2Proof.Machine

variable {s : State} {h : HostId}

/-! ### Checks and readings over a set of outputs -/

theorem restarted_anyOutput (s : State) (h : HostId) : (s.restarted h).anyOutput = s.anyOutput := by
  unfold State.anyOutput
  rw [restarted_outputs]

theorem restarted_outputsWhere (s : State) (h : HostId) : (s.restarted h).outputsWhere = s.outputsWhere := by
  unfold State.outputsWhere
  rw [restarted_outputs]

/-- A seizure takes an output from another host (R130). -/
theorem takenBy_iff (x : Output) (h : HostId) : x.takenBy h = true ↔ ∃ g, x.owner = some g ∧ g ≠ h := by
  unfold Output.takenBy
  cases x.owner <;> simp

/-- Some output of the set is another host's (R117). -/
theorem othersOutput_iff (s : State) (outs : OutputSet) (h : HostId) :
    (s.anyOutput outs fun o => o.owner.isSome && o.owner != some h) = true ↔
      ∃ (o : OutputId) (g : HostId), holds outs o = true ∧ s.outputs[o].owner = some g ∧ g ≠ h := by
  rw [anyOutput_iff]
  simp only [exists_and_left]
  exact exists_congr fun o => and_congr_right fun _ => takenBy_iff _ h

/-- Some output of the set is not the caller's own (R119, R120). -/
theorem foreignOutput_iff (s : State) (outs : OutputSet) (h : HostId) :
    (s.anyOutput outs fun o => o.owner != some h) = true ↔
      ∃ o : OutputId, holds outs o = true ∧ s.outputs[o].owner ≠ some h := by
  simp only [anyOutput_iff, bne_iff_ne]

/-- Some output of the set has a pulse in flight (R120). -/
theorem pulsedOutput_iff (s : State) (outs : OutputSet) : (s.anyOutput outs fun o => o.pulse.isSome) = true ↔
    ∃ o : OutputId, holds outs o = true ∧ s.outputs[o].pulse ≠ none := by
  simp only [anyOutput_iff, Option.isSome_iff_ne_none]

theorem holds_outputsWhere (s : State) (outs : OutputSet) (p : Output → Bool) (o : OutputId) :
    holds (s.outputsWhere outs p) o = true ↔ holds outs o = true ∧ p s.outputs[o] = true := by
  rw [State.outputsWhere, holds_setOf, Bool.and_eq_true]

theorem holds_ownedOutputs (s : State) (h : HostId) (o : OutputId) :
    holds (s.ownedOutputs h) o = true ↔ s.outputs[o].owner = some h := by
  rw [State.ownedOutputs, holds_setOf, beq_iff_eq]

theorem holds_driveLevels (s : State) (o : OutputId) :
    holds s.driveLevels o = true ↔ s.outputs[o].drive = .high := by
  rw [State.driveLevels, holds_setOf, bit_eq, decide_eq_true_iff]

theorem holds_safeLevels (s : State) (o : OutputId) :
    holds s.safeLevels o = true ↔ s.outputs[o].safe = .high := by
  rw [State.safeLevels, holds_setOf, bit_eq, decide_eq_true_iff]

/-! ### The set changed -/

theorem restarted_mapOutputs (s : State) (h : HostId) (outs : OutputSet) (f : OutputId → Output → Output)
    (o : OutputId) : ((s.restarted h).mapOutputs outs f).outputs[o] =
      if holds outs o then f o s.outputs[o] else s.outputs[o] := by
  rw [mapOutputs_getElem, restarted_outputs]

/-- A claim of an output that no other host owns (R117). -/
theorem claim_eq {x : Output} (free : ¬ ∃ g, x.owner = some g ∧ g ≠ h) :
    x.claim h = { x with owner := some h } := by
  unfold Output.claim
  split
  · rename_i g owner
    have own : g = h := not_not.mp fun other => free ⟨g, owner, other⟩
    rw [← own, ← owner]
  · rfl

/-- A new safe level, field by field (R132). -/
theorem putSafe_eq (x : Output) (level : Level) : x.putSafe level =
    { x with safe := level, drive := if x.owner = none then level else x.drive } := by
  unfold Output.putSafe
  cases x.owner <;> rfl

/-- A seizure of an output, by whether it takes the output from another host (R130). -/
theorem seize_eq (x : Output) (h : HostId) : x.seize h =
    if x.takenBy h then { x with
      owner := some h, pulse := none, binding := none
      drive := match x.pulse with
        | none => x.drive
        | some p => p.returnLevel }
    else { x with owner := some h } := by
  unfold Output.seize Output.takenBy
  cases owner : x.owner with
  | none => rfl
  | some g =>
    by_cases own : g = h
    · subst own
      simp [← owner]
    · have taken : ((some g).isSome && some g != some h) = true := by simpa using own
      rw [if_pos taken]
      exact if_neg own

/-! ### OUT_CLAIM, OUT_RELEASE and OUT_DRIVE (R117, R119, R120) -/

/-- Settles O42, request by request: the checks in their order, then every output of the set changed. -/
theorem outputSetsAreClaimedReleasedAndDriven : Obligations.OutputSetsAreClaimedReleasedAndDriven := by
  intro h tag payload s attached
  refine ⟨fun awaits => ?claim, fun awaits => ?release, fun awaits => ?drive⟩
  case claim =>
    have answers := attached_answeredWith (i := .outClaim h tag payload) (command := outClaimReply) rfl rfl
      (fun _ _ => rfl) awaits attached
    rcases payload with _ | ⟨outs, _ | _⟩
    case cons.nil =>
      dsimp only at answers ⊢
      rw [restarted_anyOutput] at answers
      refine answers.stage rfl Iff.rfl fun _ answers => ?_
      refine answers.stage rfl (othersOutput_iff s outs h) fun free answers => ?_
      refine ⟨_, _, fun o => holds_ownedOutputs .., answers, rfl, fun o => ?_⟩
      rw [restarted_mapOutputs]
      refine if_ctx_congr Iff.rfl (fun member => claim_eq ?_) fun _ => rfl
      rintro ⟨g, owner, other⟩
      exact free ⟨o, g, member, owner, other⟩
    all_goals exact answers
  case release =>
    have answers := attached_answeredWith (i := .outRelease h tag payload) (command := outReleaseReply) rfl rfl
      (fun _ _ => rfl) awaits attached
    rcases payload with _ | ⟨outs, _ | _⟩
    case cons.nil =>
      dsimp only at answers ⊢
      rw [restarted_anyOutput, restarted_outputsWhere] at answers
      refine answers.stage rfl Iff.rfl fun _ answers => ?_
      refine answers.stage rfl (foreignOutput_iff s outs h) fun _ answers => ?_
      refine ⟨_, _, fun o => ?_, answers, rfl, fun o => ?_⟩
      · rw [holds_outputsWhere, Option.isSome_iff_ne_none]
      · rw [restarted_mapOutputs]
        rfl
    all_goals exact answers
  case drive =>
    have answers := attached_answeredWith (i := .outDrive h tag payload) (command := outDriveReply) rfl rfl
      (fun _ _ => rfl) awaits attached
    rcases payload with _ | ⟨outs, _ | ⟨levels, _ | _⟩⟩
    case cons.cons.nil =>
      dsimp only at answers ⊢
      rw [restarted_anyOutput] at answers
      refine answers.stage rfl Iff.rfl fun _ answers => ?_
      refine answers.stage rfl (foreignOutput_iff s outs h) fun _ answers => ?_
      refine answers.stage rfl (pulsedOutput_iff s outs) fun _ answers => ?_
      refine ⟨_, _, fun o => holds_driveLevels .., answers, rfl, fun o => ?_⟩
      rw [restarted_mapOutputs]
      rfl
    all_goals exact answers

/-! ### OUT_SAFE (R132) -/

/-- Settles O46: the checks in their order, then every output of the set put on its new safe level. -/
theorem outSafeMovesUnownedOutputs : Obligations.OutSafeMovesUnownedOutputs := by
  intro h tag payload s awaits attached
  have answers := attached_answeredWith (i := .outSafe h tag payload) (command := outSafeReply) rfl rfl
    (fun _ _ => rfl) awaits attached
  rcases payload with _ | ⟨outs, _ | ⟨levels, _ | _⟩⟩
  case cons.cons.nil =>
    dsimp only at answers ⊢
    rw [restarted_isSupervisor] at answers
    refine answers.stage rfl Iff.rfl fun _ answers => ?_
    refine answers.stage rfl (not_isSupervisor_iff s h) fun _ answers => ?_
    refine ⟨_, _, fun o => holds_safeLevels .., answers, rfl, fun o => ?_⟩
    rw [restarted_mapOutputs, putSafe_eq]
    rfl
  all_goals exact answers

/-! ### OUT_SEIZE (R129, R130) -/

/-- Some output of the set is another SUPERVISOR's (R129). -/
theorem supervisorsOutput_iff (s : State) (outs : OutputSet) (h : HostId) :
    (s.anyOutput outs fun o => o.takenBy h && o.owner.any s.isSupervisor) = true ↔
      ∃ (o : OutputId) (g : HostId), holds outs o = true ∧ s.outputs[o].owner = some g ∧ g ≠ h ∧
        s.sessions[g].privilege = .supervisor := by
  have others : ∀ x : Output, (x.takenBy h && x.owner.any s.isSupervisor) = true ↔
      ∃ g, x.owner = some g ∧ g ≠ h ∧ s.sessions[g].privilege = .supervisor := by
    intro x
    unfold Output.takenBy State.isSupervisor
    cases x.owner <;> simp
  simp only [anyOutput_iff, others, exists_and_left]

/-- The set seized, output by output: taken from another host, or claimed, or not in the set (R130). -/
theorem seize_member (s : State) (h : HostId) (outs : OutputSet) (o : OutputId) :
    (if holds outs o then s.outputs[o].seize h else s.outputs[o]) =
      if holds (s.outputsWhere outs (Output.takenBy h)) o then { s.outputs[o] with
        owner := some h, pulse := none, binding := none
        drive := match s.outputs[o].pulse with
          | none => s.outputs[o].drive
          | some p => p.returnLevel }
      else if holds outs o then { s.outputs[o] with owner := some h }
      else s.outputs[o] := by
  have taken : holds (s.outputsWhere outs (Output.takenBy h)) o = (holds outs o && s.outputs[o].takenBy h) := by
    rw [State.outputsWhere, holds_setOf]
  rw [seize_eq, taken]
  cases holds outs o
  · rfl
  · rw [Bool.true_and, if_pos rfl, if_pos rfl]

/-- A host that loses an output to a seizure, in a state whose owners are ATTACHED, is posted SEIZED, and no
other host (R130, R162). -/
theorem postSeized_attention
    (owners : ∀ (o : OutputId) (g : HostId), s.outputs[o].owner = some g → s.isAttached g = true)
    (h : HostId) (outs : OutputSet) (g : HostId) :
    (s.postSeized h outs).attention[g] =
      if ∃ o : OutputId, holds (s.outputsWhere outs (Output.takenBy h)) o = true ∧
          s.outputs[o].owner = some g then
        postedAttention s.attention[g] 0x10#5
      else s.attention[g] := by
  have loses : (s.anyOutput outs fun o => o.takenBy h && o.owner == some g) = true ↔
      ∃ o : OutputId, holds (s.outputsWhere outs (Output.takenBy h)) o = true ∧
        s.outputs[o].owner = some g := by
    simp only [anyOutput_iff, holds_outputsWhere, Bool.and_eq_true, beq_iff_eq, and_assoc]
  have posted : (s.postSeized h outs).attention[g] =
      if s.anyOutput outs fun o => o.takenBy h && o.owner == some g then
        s.attention[g].post s.sessions[g] Cause.seized.set
      else s.attention[g] := by
    simp [State.postSeized]
  rw [posted]
  refine if_ctx_congr loses (fun ⟨o, _, owner⟩ => post_attached ?_ (by decide)) fun _ => rfl
  simpa [State.isAttached] using owners o g owner

/-- The offers of a seizure, one for each output taken, in ascending order, to its previous owner (R11,
R130). -/
theorem seizedOffers_restarted (s : State) (h : HostId) (outs : OutputSet) (takenAt : HubTime) :
    (s.restarted h).seizedOffers h outs takenAt =
      ((List.finRange 8).filter fun o => holds (s.outputsWhere outs (Output.takenBy h)) o).map
        fun o : OutputId => ⟨.outputSeized, .output o, takenAt, .seized h,
          match s.outputs[o].owner with | none => 0 | some g => single g⟩ := by
  rw [State.seizedOffers, restarted_outputsWhere, restarted_outputs]
  rfl

/-- Settles O45: the checks in their order, then the seizure of the set and its offers. -/
theorem outSeizeTakesFromOrdinaryHosts : Obligations.OutSeizeTakesFromOrdinaryHosts := by
  intro h tag payload s awaits attached owners
  have answers := attached_answeredWith (i := .outSeize h tag payload) (command := outSeizeReply) rfl rfl
    (fun _ _ => rfl) awaits attached
  rcases payload with _ | ⟨outs, _ | _⟩
  case cons.nil =>
    have isSupervisor : (s.restarted h).isSupervisor = s.isSupervisor := funext (restarted_isSupervisor s h)
    dsimp only at answers ⊢
    rw [isSupervisor, restarted_anyOutput, restarted_outputsWhere, seizedOffers_restarted] at answers
    refine answers.stage rfl Iff.rfl fun _ answers => ?_
    refine answers.stage rfl (not_isSupervisor_iff s h) fun _ answers => ?_
    refine answers.stage rfl (supervisorsOutput_iff s outs h) fun _ answers => ?_
    refine ⟨_, _, _, fun o => ⟨?taken, ?cancelled⟩, ?frame, fun o => ?output, fun g => ?attention,
      answers⟩
    case taken => rw [holds_outputsWhere, takenBy_iff]
    case cancelled =>
      simp only [holds_outputsWhere, Bool.and_eq_true, Option.isSome_iff_ne_none, and_assoc]
    case frame => rfl
    case output =>
      rw [mapOutputs_getElem, postSeized_outputs, restarted_outputs]
      exact seize_member s h outs o
    case attention =>
      have owners' : ∀ (o : OutputId) (g : HostId), (s.restarted h).outputs[o].owner = some g →
          (s.restarted h).isAttached g = true := by
        intro o g owner
        rw [restarted_outputs] at owner
        rw [restarted_isAttached]
        exact owners o g owner
      have posted := postSeized_attention owners' h outs g
      rw [restarted_outputsWhere, restarted_outputs, restarted_attention] at posted
      exact posted
  all_goals exact answers

end Sys2Proof.Machine
end

section
/-!
CLAIM. The requests on one output and the expiry of its pulse: OUT_PULSE, PULSE_EXPIRY, OUT_BIND and
OUT_UNBIND (O43, O44).
-/

namespace Sys2Proof.Machine

variable {s : State}

/-! ### Fields of a payload (R121, R124) -/

/-- The byte of an edge kind (R124). -/
def EdgeKind.byte : EdgeKind → Byte
  | .rise => 1#8
  | .fall => 2#8

theorem edgeKind?_byte (x : EdgeKind) : edgeKind? x.byte = some x := by cases x <;> rfl

theorem edgeKind?_eq_some {b : Byte} {x : EdgeKind} (found : edgeKind? b = some x) : b = x.byte := by
  unfold edgeKind? at found
  split at found
  · cases found; assumption
  split at found <;> cases found
  assumption

theorem level?_byte (x : Level) : level? x.byte = some x := by cases x <;> rfl

theorem level?_eq_some {b : Byte} {x : Level} (found : level? b = some x) : b = x.byte := by
  unfold level? at found
  split at found
  · cases found; assumption
  split at found <;> cases found
  assumption

/-- A level byte, by its number (R121). -/
theorem level?_eq (b : Byte) :
    level? b = if 1 < b.toNat then none else some (if b = 1#8 then .high else .low) := by
  unfold level?
  by_cases low : b = 0#8
  · subst low; rfl
  by_cases high : b = 1#8
  · subst high; rfl
  have above : 1 < b.toNat := by
    have notLow : b.toNat ≠ 0 := fun zero => low (BitVec.eq_of_toNat_eq zero)
    have notHigh : b.toNat ≠ 1 := fun one => high (BitVec.eq_of_toNat_eq one)
    omega
  rw [if_neg low, if_neg high, if_pos above]

/-! ### OUT_PULSE and PULSE_EXPIRY (R121, R122) -/

/-- Settles O43: the checks in their order, then the output pulsed; and the expiry of a pulse that is due. -/
theorem pulsesDriveAndReturn : Obligations.PulsesDriveAndReturn := by
  refine ⟨fun h tag payload s awaits attached => ?pulse, fun o s p inFlight due => ?expiry⟩
  case pulse =>
    have answers := attached_answeredWith (i := .outPulse h tag payload) (command := outPulseReply) rfl rfl
      (fun _ _ => rfl) awaits attached
    rcases payload with _ | ⟨out, _ | ⟨lev, _ | ⟨hi, _ | ⟨lo, _ | _⟩⟩⟩⟩
    case cons.cons.cons.cons.nil =>
      dsimp only at answers ⊢
      rw [level?_eq, numbered] at answers
      split
      · rename_i fits
        rw [dif_pos fits] at answers
        by_cases range : 1 < lev.toNat
        · rw [if_pos range] at answers
          rw [if_pos (.inl range)]
          exact answers
        rw [if_neg range] at answers
        dsimp only at answers
        rw [restarted_outputs, ← ite_or] at answers
        refine answers.stage rfl (or_iff_right range).symm fun _ answers => ?_
        refine answers.stage rfl Iff.rfl fun _ answers => ?_
        refine answers.stage rfl Option.isSome_iff_ne_none fun _ answers => ?_
        rw [State.setOutput, restarted_outputs] at answers
        exact answers
      · rename_i outside
        rw [dif_neg outside] at answers
        exact answers
    all_goals exact answers
  case expiry =>
    change execPulseExpiry o s = _
    rw [execPulseExpiry, inFlight]
    exact if_pos due

/-! ### OUT_BIND and OUT_UNBIND (R124, R125) -/

/-- The payload of an OUT_BIND (R124). -/
def bindPayload (o : OutputId) (l : LineId) (k : EdgeKind) (level : Level) : List Byte :=
  [numberByte o.val, numberByte l.val, k.byte, level.byte]

theorem bindPayload_spelled (o : OutputId) (l : LineId) (k : EdgeKind) (level : Level) :
    bindPayload o l k level = [numberByte o.val, numberByte l.val, match k with | .rise => 1#8 | .fall => 2#8,
      match level with | .low => 0#8 | .high => 1#8] := by
  cases k <;> cases level <;> rfl

/-- Whether there was a binding before (R124, R125). -/
theorem flagByte_isSome {α : Type} (x : Option α) [Decidable (x = none)] :
    flagByte x.isSome = if x = none then 0#8 else 1#8 := by
  cases x with
  | none => rw [if_pos rfl]; rfl
  | some _ => rw [if_neg nofun]; rfl

/-- What OUT_BIND makes of a payload in range. -/
theorem outBind_answers {h : HostId} {tag : Byte} {o : OutputId} {l : LineId} {k : EdgeKind} {level : Level}
    (awaits : s.awaits (.outBind h tag (bindPayload o l k level)) = true) (attached : s.isAttached h = true) :
    if s.outputs[o].owner ≠ some h then Refuses (.outBind h tag (bindPayload o l k level)) s .notOwner
    else Answers (.outBind h tag (bindPayload o l k level)) s
      { s.restarted h with
        outputs := s.outputs.set o { s.outputs[o] with binding := some ⟨l, k, level⟩ } } .ok
      [flagByte s.outputs[o].binding.isSome] := by
  have answers := attached_answeredWith (i := .outBind h tag (bindPayload o l k level))
    (command := outBindReply) rfl rfl (fun _ _ => rfl) awaits attached
  dsimp only [bindPayload] at answers
  rw [numbered_numberByte o (by decide), numbered_numberByte l (by decide), edgeKind?_byte,
    level?_byte] at answers
  dsimp only [State.setOutput] at answers
  rw [restarted_outputs] at answers
  refine answers.stage rfl Iff.rfl fun _ answers => ?_
  exact answers

theorem outBind_badArg {h : HostId} {tag : Byte} {payload : List Byte}
    (awaits : s.awaits (.outBind h tag payload) = true) (attached : s.isAttached h = true)
    (other : ∀ o l k level, payload ≠ bindPayload o l k level) :
    Refuses (.outBind h tag payload) s .badArg := by
  have answers := attached_answeredWith (i := .outBind h tag payload) (command := outBindReply) rfl rfl
    (fun _ _ => rfl) awaits attached
  rcases payload with _ | ⟨out, _ | ⟨line, _ | ⟨kind, _ | ⟨lev, _ | _⟩⟩⟩⟩
  case cons.cons.cons.cons.nil =>
    dsimp only at answers
    split at answers
    · rename_i o l k level out line kind lev
      refine absurd ?_ (other o l k level)
      rw [bindPayload, numbered_eq_some out, numbered_eq_some line, edgeKind?_eq_some kind, level?_eq_some lev]
    · exact answers
  all_goals exact answers

/-- What OUT_UNBIND makes of the number of an output, and of any other payload. -/
theorem outUnbind_answers {h : HostId} {tag : Byte} {payload : List Byte}
    (awaits : s.awaits (.outUnbind h tag payload) = true) (attached : s.isAttached h = true) :
    (∀ o : OutputId, payload = [numberByte o.val] →
      if s.outputs[o].owner ≠ some h then Refuses (.outUnbind h tag payload) s .notOwner
      else Answers (.outUnbind h tag payload) s
        { s.restarted h with outputs := s.outputs.set o { s.outputs[o] with binding := none } } .ok
        [flagByte s.outputs[o].binding.isSome]) ∧
    ((∀ o : OutputId, payload ≠ [numberByte o.val]) → Refuses (.outUnbind h tag payload) s .badArg) := by
  have answers := attached_answeredWith (i := .outUnbind h tag payload) (command := outUnbindReply) rfl rfl
    (fun _ _ => rfl) awaits attached
  refine ⟨?_, fun other => ?_⟩
  · rintro o rfl
    dsimp only at answers
    rw [numbered_numberByte o (by decide)] at answers
    dsimp only [State.setOutput] at answers
    rw [restarted_outputs] at answers
    refine answers.stage rfl Iff.rfl fun _ answers => ?_
    exact answers
  · rcases payload with _ | ⟨out, _ | _⟩
    case cons.nil =>
      dsimp only at answers
      rw [numbered_eq_none other] at answers
      exact answers
    all_goals exact answers

/-- Settles O44: the payload of a binding is read back, and no other payload is. -/
theorem bindingsAreSetAndRemoved : Obligations.BindingsAreSetAndRemoved := by
  intro h tag payload s attached
  refine ⟨fun awaits => ⟨fun o l k level encoded => ?bind, fun other => ?badArg⟩, fun awaits => ?unbind⟩
  case bind =>
    obtain rfl := encoded.trans (bindPayload_spelled ..).symm
    have answers := outBind_answers awaits attached
    rw [flagByte_isSome] at answers
    exact answers
  case badArg =>
    exact outBind_badArg awaits attached fun o l k level encoded =>
      other o l k level (encoded.trans (bindPayload_spelled ..))
  case unbind =>
    have answers := outUnbind_answers awaits attached
    simp only [flagByte_isSome] at answers
    exact answers

end Sys2Proof.Machine
end

section
/-!
SUPPORT. A session end, block by block, in every state (R54, R55, R77, R111, R112, R134, R151, R170).
-/

namespace Sys2Proof.Machine

variable {s : State} {h : HostId}

/-! ### The oldest entries removed -/

/-- The removal of a queue's head changes slots and lines, and takes the head from that queue's entries. -/
theorem removeHead_tail (s : State) (h : HostId) : s.removeHead h = { s with
    slots := (s.removeHead h).slots, lines := (s.removeHead h).lines
    queues := s.queues.set h.val { s.queues[h] with entries := s.queues[h].entries.tail } } := by
  unfold State.removeHead
  split
  · rename_i empty
    have same : s.queues.set h.val { s.queues[h] with entries := s.queues[h].entries.tail } = s.queues := by
      rw [empty, List.tail_nil, ← empty]
      exact Vector.set_getElem_self ..
    rw [same]
  · rename_i e rest found
    rw [removeHolder_frame, found]
    rfl

/-- The removal of a queue's oldest entries changes slots and lines, and takes them from that queue. -/
theorem removeOldest_frame (s : State) (h : HostId) (n : Nat) : s.removeOldest h n = { s with
    slots := (s.removeOldest h n).slots, lines := (s.removeOldest h n).lines
    queues := s.queues.set h.val { s.queues[h] with entries := s.queues[h].entries.drop n } } := by
  induction n generalizing s with
  | zero =>
    have same : s.queues.set h.val { s.queues[h] with entries := s.queues[h].entries.drop 0 } = s.queues :=
      Vector.set_getElem_self ..
    rw [same]
    rfl
  | succ n ih =>
    have queue : (s.removeHead h).queues =
        s.queues.set h.val { s.queues[h] with entries := s.queues[h].entries.tail } := by rw [removeHead_tail]
    have self : (s.removeHead h).queues[h] = { s.queues[h] with entries := s.queues[h].entries.tail } := by
      rw [queue]; exact Vector.getElem_set_self ..
    rw [State.removeOldest, ih, self, queue, Vector.set_set, List.drop_tail, removeHead_tail]

/-! ### The teardown -/

/-- What the teardown leaves alone: the sessions, which have changed before it, and every block that holds
nothing of a host. -/
theorem teardown_frame (s : State) (h : HostId) : s.teardown h = { s with
    slots := (s.teardown h).slots, queues := (s.teardown h).queues
    subscriptions := (s.teardown h).subscriptions, lines := (s.teardown h).lines
    watches := (s.teardown h).watches, outputs := (s.teardown h).outputs
    attention := (s.teardown h).attention } := by
  unfold State.teardown
  rw [removeOldest_frame]

theorem teardown_sessions (s : State) (h : HostId) : (s.teardown h).sessions = s.sessions := by
  rw [teardown_frame]

/-- The host's queue is as at power-on (R54). -/
theorem teardown_queue (s : State) (h : HostId) : (s.teardown h).queues[h] =
    { entries := [], pendingMisses := 0, missedTotal := 0, threshold := 1 } :=
  Vector.getElem_set_self ..

/-- Every other queue stays. -/
theorem teardown_queue_other {g : HostId} (s : State) (other : g ≠ h) :
    (s.teardown h).queues[g] = s.queues[g] := by
  have removed : (s.removeOldest h s.queues[h].entries.length).queues[g] = s.queues[g] := by
    rw [removeOldest_frame]
    exact set_getElem_other _ _ other
  exact (set_getElem_other _ _ other).trans removed

theorem teardown_subscriptions (s : State) (h : HostId) : (s.teardown h).subscriptions =
    s.subscriptions.set h.val { rise := 0, fall := 0, session := false, time := false } := by
  rw [State.teardown, removeOldest_frame]

theorem teardown_attention (s : State) (h : HostId) :
    (s.teardown h).attention = s.attention.set h.val (Attention.cleared s.sessions[h]) := by
  rw [State.teardown, removeOldest_frame]

/-- The host's lines lose their owner, after the removal of its entries (R77). -/
theorem teardown_line (s : State) (h : HostId) (l : LineId) : (s.teardown h).lines[l] =
    { (s.removeOldest h s.queues[h].entries.length).lines[l] with
      owner := if s.lines[l].owner = some h then none else s.lines[l].owner } := by
  have owner : (s.removeOldest h s.queues[h].entries.length).lines[l].owner = s.lines[l].owner := by
    rw [(removeOldest_losesRefs s h s.queues[h].entries.length l).rest]
  rw [State.teardown, map_getElem, ← owner]
  split
  · rfl
  · rfl

/-- The host leaves every watch entry (R111, R112). -/
theorem teardown_watch (s : State) (h : HostId) (w : WatchId) :
    (s.teardown h).watches[w] = s.watches[w].leave h := by
  rw [State.teardown, map_getElem, removeOldest_frame]

/-- The host's outputs are released (R134). -/
theorem teardown_output (s : State) (h : HostId) (o : OutputId) : (s.teardown h).outputs[o] =
    if s.outputs[o].owner = some h then s.outputs[o].release else s.outputs[o] := by
  rw [State.teardown, map_getElem, removeOldest_frame]

end Sys2Proof.Machine
end

section
/-!
SUPPORT. HostMove: what one operation can make of a host, its session, its attention state and what it holds
and owns (R138, R141, R142, R144, R151, R158, R164).
-/

namespace Sys2Proof.Machine

variable {s t u : State} {h : HostId}

/-! ### The move of one host -/

/-- The host holds and owns nothing: what R141 says of one that is not ATTACHED. -/
structure State.Bare (s : State) (h : HostId) : Prop where
  entries : s.queues[h].entries = []
  pendingMisses : s.queues[h].pendingMisses = 0#16
  subscription : s.subscriptions[h] = { rise := 0, fall := 0, session := false, time := false }
  outputs : ∀ o : OutputId, s.outputs[o].owner ≠ some h
  lines : ∀ l : LineId, s.lines[l].owner ≠ some h
  watches : ∀ w : WatchId, s.watches[w].owner ≠ some h

/-- What one operation can make of a host. An ATTACHED host's attention output is evaluated with every change
of its sets; a host that is not ATTACHED comes to hold nothing; only an ATTACHED host's session ends. -/
inductive HostMove (s t : State) (h : HostId) : Prop
  | served (attached : s.sessions[h].state = .attached) (timer : Option Countdown)
      (session : t.sessions[h] = { s.sessions[h] with timer := timer })
      (attention : t.attention[h] = s.attention[h] ∨ ∃ a, t.attention[h] = Attention.evaluate a s.sessions[h])
  | away (away : s.sessions[h].state ≠ .attached) (timer : Option Countdown)
      (stopped : s.sessions[h].timer = none → timer = none)
      (session : t.sessions[h] = { s.sessions[h] with timer := timer })
      (attention : t.attention[h] = s.attention[h]) (bare : s.Bare h → t.Bare h)
  | opened (period : Byte) (session : t.sessions[h] = s.sessions[h].opened period)
      (attention : t.attention[h] = Attention.cleared t.sessions[h])
  | ended (c : EndCause) (attached : s.sessions[h].state = .attached)
      (session : t.sessions[h] = s.sessions[h].ended c)
      (attention : t.attention[h] = Attention.cleared t.sessions[h]) (bare : t.Bare h)
  | reset (x : Session) (session : t.sessions[h] = x.restarted)
      (attention : t.attention[h] = Attention.cleared t.sessions[h]) (bare : t.Bare h)

/-- Every host makes a move. -/
structure HostsMove (s t : State) : Prop where
  host : ∀ h : HostId, HostMove s t h

/-- The moves of a command, one after another. -/
abbrev HostsMoves : State → State → Prop := Relation.ReflTransGen HostsMove

theorem HostsMove.moves (move : HostsMove s t) : HostsMoves s t := .single move

/-! ### Postings (R162 to R164) -/

theorem isAttached_iff (s : State) (h : HostId) :
    s.isAttached h = true ↔ s.sessions[h].state = .attached := beq_iff_eq

/-- A posting changes nothing, or evaluates the output of changed sets. -/
theorem post_cases (a : Attention) (x : Session) (c : CauseSet) :
    a.post x c = a ∨ ∃ b, a.post x c = Attention.evaluate b x := by
  unfold Attention.post
  split
  · exact .inl rfl
  split
  · exact .inr ⟨_, rfl⟩
  · exact .inl rfl

/-- Nothing is posted at a host that is not ATTACHED (R163). -/
theorem post_away {x : Session} (away : x.state ≠ .attached) (a : Attention) (c : CauseSet) :
    a.post x c = a := by
  unfold Attention.post
  rw [if_neg away, ite_self]

theorem post_none (a : Attention) (x : Session) : a.post x 0#5 = a := if_pos rfl

/-- A posting, with whatever else an ATTACHED host gains. -/
theorem HostMove.of_post (session : t.sessions[h] = s.sessions[h]) (c : CauseSet)
    (attention : t.attention[h] = s.attention[h].post s.sessions[h] c)
    (bare : s.sessions[h].state ≠ .attached → s.Bare h → t.Bare h) : HostMove s t h := by
  by_cases attached : s.sessions[h].state = .attached
  · refine .served attached s.sessions[h].timer session ?_
    rw [attention]
    exact post_cases ..
  · refine .away attached s.sessions[h].timer id session ?_ (bare attached)
    rw [attention]
    exact post_away attached ..

/-- A host whose session and attention state stand. -/
theorem HostMove.of_kept (session : t.sessions[h] = s.sessions[h]) (attention : t.attention[h] = s.attention[h])
    (bare : s.sessions[h].state ≠ .attached → s.Bare h → t.Bare h) : HostMove s t h :=
  .of_post session 0#5 (attention.trans (post_none ..).symm) bare

/-! ### Changes of owner -/

/-- An owner after an event: the one before it, or an ATTACHED host. -/
structure State.MayOwn (s : State) (before after : Option HostId) : Prop where
  owner : ∀ g : HostId, after = some g → before = some g ∨ s.sessions[g].state = .attached

theorem State.MayOwn.refl (s : State) (owner : Option HostId) : s.MayOwn owner owner :=
  ⟨fun _ => .inl⟩

theorem State.MayOwn.of_none (s : State) (owner : Option HostId) : s.MayOwn owner none := ⟨nofun⟩

theorem State.MayOwn.of_attached (attached : s.sessions[h].state = .attached) (owner : Option HostId) :
    s.MayOwn owner (some h) := by
  refine ⟨?_⟩
  rintro _ ⟨⟩
  exact .inr attached

/-- Who owned nothing and is not ATTACHED owns nothing still. -/
theorem State.MayOwn.away {before after : Option HostId} (may : s.MayOwn before after)
    (away : s.sessions[h].state ≠ .attached) (other : before ≠ some h) : after ≠ some h :=
  fun owns => (may.owner h owns).elim other away

/-- A change of lines, watch entries and outputs whose owners are the ones before it or ATTACHED. -/
theorem HostsMove.of_owners (sessions : t.sessions = s.sessions) (attention : t.attention = s.attention)
    (queues : t.queues = s.queues) (subscriptions : t.subscriptions = s.subscriptions)
    (outputs : ∀ o : OutputId, s.MayOwn s.outputs[o].owner t.outputs[o].owner)
    (lines : ∀ l : LineId, s.MayOwn s.lines[l].owner t.lines[l].owner)
    (watches : ∀ w : WatchId, s.MayOwn s.watches[w].owner t.watches[w].owner) : HostsMove s t := by
  refine ⟨fun h => .of_kept (by rw [sessions]) (by rw [attention]) fun away bare => ?_⟩
  exact
    { entries := by rw [queues]; exact bare.entries
      pendingMisses := by rw [queues]; exact bare.pendingMisses
      subscription := by rw [subscriptions]; exact bare.subscription
      outputs := fun o => (outputs o).away away (bare.outputs o)
      lines := fun l => (lines l).away away (bare.lines l)
      watches := fun w => (watches w).away away (bare.watches w) }

/-- A change outside what concerns a host. -/
theorem HostsMove.of_fields (sessions : t.sessions = s.sessions) (attention : t.attention = s.attention)
    (queues : t.queues = s.queues) (subscriptions : t.subscriptions = s.subscriptions)
    (outputs : t.outputs = s.outputs) (lines : t.lines = s.lines) (watches : t.watches = s.watches) :
    HostsMove s t :=
  .of_owners sessions attention queues subscriptions (fun _ => by rw [outputs]; exact .refl ..)
    (fun _ => by rw [lines]; exact .refl ..) (fun _ => by rw [watches]; exact .refl ..)

theorem HostsMove.of_setLine {l : LineId} {x : Line} (owner : s.MayOwn s.lines[l].owner x.owner) :
    HostsMove s (s.setLine l x) := by
  refine .of_owners rfl rfl rfl rfl (fun _ => .refl ..) (fun m => ?_) (fun _ => .refl ..)
  rw [setLine_getElem]
  split
  · rename_i e; subst e; exact owner
  · exact .refl ..

theorem HostsMove.of_mapLines {named : LineSet} (f : Line → Line)
    (owner : ∀ x, s.MayOwn x.owner (f x).owner) : HostsMove s (s.mapLines named f) := by
  refine .of_owners (mapLines_sessions ..) (mapLines_attention ..) (mapLines_queues ..)
    (mapLines_subscriptions ..) (fun o => ?_) (fun l => ?_) (fun w => ?_)
  · rw [mapLines_outputs]; exact .refl ..
  · rw [mapLines_getElem]
    split
    · exact owner _
    · exact .refl ..
  · rw [mapLines_watches]; exact .refl ..

theorem HostsMove.of_setOutput {o : OutputId} {x : Output} (owner : s.MayOwn s.outputs[o].owner x.owner) :
    HostsMove s (s.setOutput o x) := by
  refine .of_owners rfl rfl rfl rfl (fun o' => ?_) (fun _ => .refl ..) (fun _ => .refl ..)
  by_cases e : o' = o
  · subst e; simpa using owner
  · rw [State.setOutput, set_getElem_other _ _ e]; exact .refl ..

theorem HostsMove.of_mapOutputs {outs : OutputSet} (f : OutputId → Output → Output)
    (owner : ∀ o x, s.MayOwn x.owner (f o x).owner) : HostsMove s (s.mapOutputs outs f) := by
  refine .of_owners rfl rfl rfl rfl (fun o => ?_) (fun _ => .refl ..) (fun _ => .refl ..)
  rw [mapOutputs_getElem]
  split
  · exact owner ..
  · exact .refl ..

theorem HostsMove.of_setWatch {w : WatchId} {x : Watch} (owner : s.MayOwn s.watches[w].owner x.owner) :
    HostsMove s (s.setWatch w x) := by
  refine .of_owners rfl rfl rfl rfl (fun _ => .refl ..) (fun _ => .refl ..) (fun w' => ?_)
  by_cases e : w' = w
  · subst e; simpa using owner
  · rw [State.setWatch, set_getElem_other _ _ e]; exact .refl ..

/-- Fold references lost: no line changes its owner. -/
theorem HostsMove.of_losesRefs (loses : LosesRefs s t)
    (frame : t = { s with slots := t.slots, lines := t.lines }) : HostsMove s t := by
  have owners : ∀ l : LineId, s.MayOwn s.lines[l].owner t.lines[l].owner := fun l => by
    rw [(loses l).rest]; exact .refl ..
  generalize t.slots = slots, t.lines = lines at frame owners
  subst frame
  exact .of_owners rfl rfl rfl rfl (fun _ => .refl ..) owners (fun _ => .refl ..)

/-! ### Changes of what an ATTACHED host holds -/

/-- A host that is not ATTACHED is another than one that is. -/
theorem away_ne {g : HostId} (attached : s.sessions[h].state = .attached)
    (away : s.sessions[g].state ≠ .attached) : g ≠ h := by
  rintro rfl
  exact away attached

theorem HostsMove.of_setSubscription (attached : s.sessions[h].state = .attached) (x : Subscription) :
    HostsMove s (s.setSubscription h x) := by
  refine ⟨fun g => .of_kept rfl rfl fun away bare => ?_⟩
  exact { bare with
    subscription := (set_getElem_other _ _ (away_ne attached away)).trans bare.subscription }

theorem HostsMove.of_setQueue (attached : s.sessions[h].state = .attached) (q : Queue) :
    HostsMove s (s.setQueue h q) := by
  refine ⟨fun g => .of_kept rfl rfl fun away bare => ?_⟩
  have kept : (s.setQueue h q).queues[g] = s.queues[g] := set_getElem_other _ _ (away_ne attached away)
  exact { bare with
    entries := by rw [kept]; exact bare.entries
    pendingMisses := by rw [kept]; exact bare.pendingMisses }

/-- The sets of an ATTACHED host changed, and its output evaluated (R164). -/
theorem HostsMove.of_evaluate (attached : s.sessions[h].state = .attached) (a : Attention) :
    HostsMove s (s.setAttention h (a.evaluate s.sessions[h])) := by
  refine ⟨fun g => ?_⟩
  by_cases e : g = h
  · subst e
    exact .served attached s.sessions[g].timer rfl (.inr ⟨a, Vector.getElem_set_self ..⟩)
  · exact .of_kept rfl (set_getElem_other _ _ e) fun _ bare => { bare with }

/-- Causes posted, at any hosts. -/
theorem HostsMove.of_posts (causes : HostId → CauseSet)
    (frame : t = { s with attention := t.attention })
    (posted : ∀ g : HostId, t.attention[g] = s.attention[g].post s.sessions[g] (causes g)) : HostsMove s t := by
  generalize t.attention = attention at frame posted
  subst frame
  exact ⟨fun g => .of_post rfl (causes g) (posted g) fun _ bare => { bare with }⟩

/-! ### The pool (R12 to R18) -/

/-- A posting at the hosts of a set is a posting of no cause at the others. -/
theorem ite_post (member : Prop) [Decidable member] (a : Attention) (x : Session) (c : CauseSet) :
    (if member then a.post x c else a) = a.post x (if member then c else 0#5) := by
  split
  · rfl
  · exact (post_none ..).symm

theorem chargeMisses_hostsMove {hosts : HostSet}
    (attached : ∀ g : HostId, holds hosts g = true → s.sessions[g].state = .attached) :
    HostsMove s (s.chargeMisses hosts) := by
  refine ⟨fun g => .of_post rfl (if holds hosts g then Cause.missed.set else 0#5) ?_ fun away bare => ?_⟩
  · rw [← ite_post]
    simp only [State.chargeMisses, Fin.getElem_fin, Vector.getElem_ofFn, Fin.eta]
  · obtain ⟨queue, _⟩ := chargeMisses_other (s := s) (mt (attached g) away)
    exact { bare with
      entries := by rw [queue]; exact bare.entries
      pendingMisses := by rw [queue]; exact bare.pendingMisses }

theorem joinQueues_hostsMove {hosts : HostSet} (i : SlotId)
    (attached : ∀ g : HostId, holds hosts g = true → s.sessions[g].state = .attached) :
    HostsMove s (s.joinQueues hosts i) := by
  refine ⟨fun g => .of_post rfl (if holds hosts g then s.queues[g].joinCauses else 0#5) ?_
    fun away bare => ?_⟩
  · rw [← ite_post]
    simp only [State.joinQueues, Fin.getElem_fin, Vector.getElem_ofFn, Fin.eta]
  · obtain ⟨queue, _⟩ := joinQueues_other (s := s) i (mt (attached g) away)
    exact { bare with
      entries := by rw [queue]; exact bare.entries
      pendingMisses := by rw [queue]; exact bare.pendingMisses }

/-- An offer is routed to ATTACHED hosts alone (R13). -/
theorem offer_hostsMoves (s : State) (o : Offer) : HostsMoves s (s.offer o).1 := by
  have full : ∀ g : HostId, holds (s.fullQueues (s.routing o)) g = true → s.sessions[g].state = .attached :=
    fun g member => routing_attached ((holds_fullQueues ..).mp member).1
  have recipient : ∀ g : HostId, holds (s.routing o &&& ~~~s.fullQueues (s.routing o)) g = true →
      (s.chargeMisses (s.fullQueues (s.routing o))).sessions[g].state = .attached :=
    fun g member => routing_attached ((holds_recipients ..).mp member).1
  rcases offer_cases s o with ⟨_, e⟩ | ⟨_, _, _, e⟩ | ⟨_, _, _, e⟩ | ⟨_, _, _, _, e⟩ | ⟨i, _, _, _, e⟩
  · rw [e]
  · rw [e]
  · rw [e]
    have charged := chargeMisses_hostsMove (s := s) (hosts := s.routing o) fun _ => routing_attached
    exact .tail charged.moves (.of_fields rfl rfl rfl rfl rfl rfl rfl)
  · rw [e]
    exact (chargeMisses_hostsMove full).moves
  · rw [e]
    have charged := chargeMisses_hostsMove full
    generalize s.chargeMisses (s.fullQueues (s.routing o)) = u at charged recipient
    have created : HostsMove u { u.setSlot i (some (o.record u.nextSeq
        (s.routing o &&& ~~~s.fullQueues (s.routing o)))) with nextSeq := u.nextSeq + 1#16 } :=
      .of_fields rfl rfl rfl rfl rfl rfl rfl
    exact .tail (.tail charged.moves created) (joinQueues_hostsMove i recipient)

/-- An offer after some moves. -/
theorem HostsMoves.then_offer {o : Offer} (before : HostsMoves s u) : HostsMoves s (u.offer o).1 :=
  before.trans (offer_hostsMoves u o)

theorem HostsMoves.then_offers {offers : List Offer} (before : HostsMoves s u) :
    HostsMoves s (u.takeOffers offers) :=
  takeOffers_induction (p := HostsMoves s) (fun _ _ => .then_offer) before offers

/-- What moves the hosts at each element of a list moves them along it. -/
theorem HostsMoves.of_foldl {α : Type} {f : State → α → State} (each : ∀ u x, HostsMoves u (f u x))
    (xs : List α) (s : State) : HostsMoves s (xs.foldl f s) := by
  induction xs generalizing s with
  | nil => exact .refl
  | cons x xs ih => exact (each s x).trans (ih _)

theorem showRecord_hostsMove (s : State) (i : SlotId) : HostsMove s (s.showRecord i) :=
  .of_losesRefs (showRecord_losesRefs s i) (showRecord_frame s i)

theorem dropFoldRefs_hostsMoves (s : State) (l : LineId) : HostsMoves s (s.dropFoldRefs l) := by
  have one : ∀ (u : State) k, HostsMove u (u.dropFoldRef l k) := fun u k =>
    .of_losesRefs (dropFoldRef_losesRefs u l k) (dropFoldRef_frame u l k)
  exact .tail (one s .rise).moves (one _ .fall)

/-- The removal of an ATTACHED host's oldest entries (R48). -/
theorem removeOldest_hostsMoves (attached : s.sessions[h].state = .attached) (n : Nat) :
    HostsMoves s (s.removeOldest h n) := by
  refine .tail (HostsMove.of_setQueue attached { s.queues[h] with entries := s.queues[h].entries.drop n }).moves ?_
  exact .of_losesRefs (removeOldest_losesRefs s h n) (removeOldest_frame s h n)

/-! ### Edges (R62, R69 to R73) -/

theorem setFoldRef_owner (x : Line) (k : EdgeKind) (ref : Option SlotId) :
    (x.setFoldRef k ref).owner = x.owner := by cases k <;> rfl

theorem setFoldTarget_hostsMove (s : State) (i : SlotId) (l : LineId) (k : EdgeKind) :
    HostsMove s (s.setFoldTarget i l k) := by
  have target : HostsMove s (s.setLine l (s.lines[l].setFoldRef k (some i))) :=
    .of_setLine (by rw [setFoldRef_owner]; exact .refl ..)
  have owners : ∀ m : LineId, s.MayOwn s.lines[m].owner (s.setFoldTarget i l k).lines[m].owner := by
    intro m
    have line := setLine_getElem s l m (s.lines[l].setFoldRef k (some i))
    rw [setLine_lines] at line
    rw [setFoldTarget_lines, line]
    split
    · rename_i e; subst e; rw [setFoldRef_owner]; exact .refl ..
    · exact .refl ..
  have frame := setFoldTarget_frame s i l k
  generalize s.setFoldTarget i l k = t at frame owners
  generalize t.slots = slots, t.lines = lines at frame owners
  subst frame
  exact .of_owners rfl rfl rfl rfl (fun _ => .refl ..) owners (fun _ => .refl ..)

theorem recordEdge_hostsMoves (s : State) (l : LineId) (k : EdgeKind) (t0 : HubTime) (snapshot : LineSet) :
    HostsMoves s (s.recordEdge l k t0 snapshot) := by
  rcases recordEdge_cases s l k t0 snapshot with ⟨_, e⟩ | ⟨i, _, _, _, _, _, e⟩ | ⟨i, _, _, e⟩ <;> rw [e]
  · exact offer_hostsMoves ..
  · exact .tail (offer_hostsMoves ..) (setFoldTarget_hostsMove ..)
  · rw [foldRecord_frame]
    exact HostsMove.moves (.of_fields rfl rfl rfl rfl rfl rfl rfl)

theorem fire_owner (x : Output) : x.fire.owner = x.owner := by
  unfold Output.fire
  split <;> rfl

theorem reportEdge_hostsMoves (s : State) (l : LineId) (k : EdgeKind) (t0 : HubTime) (snapshot : LineSet) :
    HostsMoves s (s.reportEdge l k t0 snapshot) := by
  have fired : HostsMove s (s.fireReflexes l k) := by
    refine .of_owners rfl rfl rfl rfl (fun o => ?_) (fun _ => .refl ..) (fun _ => .refl ..)
    rw [State.fireReflexes, map_getElem]
    split
    · rw [fire_owner]; exact .refl ..
    · exact .refl ..
  have drawn : ∀ draws, HostsMoves s { s.fireReflexes l k with draws := draws } := fun _ =>
    .tail fired.moves (.of_fields rfl rfl rfl rfl rfl rfl rfl)
  obtain ⟨draws, n, report⟩ := reportEdge_eq s l k t0 snapshot
  rw [report]
  exact .then_offers ((HostsMoves.then_offers (drawn draws)).trans (recordEdge_hostsMoves ..))

theorem qualifyEdge_hostsMoves (s : State) (l : LineId) (t0 : HubTime) :
    HostsMoves s (s.qualifyEdge l t0) := by
  have flipped : HostsMove s (s.setLine l (s.lines[l].qualify t0)) := .of_setLine (.refl ..)
  unfold State.qualifyEdge
  dsimp only
  refine .tail ?_ (.of_setLine (.refl ..))
  split
  · exact .head flipped (reportEdge_hostsMoves ..)
  · exact flipped.moves

/-! ### Sessions (R142, R144, R151, R158) -/

/-- The restart of a timer: one that runs belongs to an ATTACHED host (R144). -/
theorem restarted_hostsMove (s : State) (h : HostId) : HostsMove s (s.restarted h) := by
  refine ⟨fun g => ?_⟩
  obtain ⟨timer, session⟩ := restarted_session s h g
  by_cases attached : s.sessions[g].state = .attached
  · exact .served attached timer session (.inl (by rw [restarted_attention]))
  · have same : (s.restarted h).sessions[g] = s.sessions[g] := by
      unfold State.restarted
      dsimp only
      split
      · rename_i caller
        exact set_getElem_other _ _ (away_ne caller attached)
      · rfl
    refine .of_kept same (by rw [restarted_attention]) fun _ bare => ?_
    exact
      { entries := by rw [restarted_queues]; exact bare.entries
        pendingMisses := by rw [restarted_queues]; exact bare.pendingMisses
        subscription := by rw [restarted_subscriptions]; exact bare.subscription
        outputs := by rw [restarted_outputs]; exact bare.outputs
        lines := by rw [restarted_lines]; exact bare.lines
        watches := by rw [restarted_watches]; exact bare.watches }

/-- A tick counts timers, and changes no owner (R91). -/
theorem handTick_hostsMove (s : State) (levels : LineSet) : HostsMove s (s.handTick levels) := by
  refine ⟨fun g => ?_⟩
  have session : (s.handTick levels).sessions[g] =
      { s.sessions[g] with timer := s.sessions[g].timer.map Countdown.tick } := handTick_session ..
  by_cases attached : s.sessions[g].state = .attached
  · exact .served attached _ session (.inl rfl)
  · refine .away attached _ (fun stopped => by rw [stopped]; rfl) session rfl fun bare => ?_
    exact { bare with
      outputs := fun o => by rw [handTick_output]; exact bare.outputs o
      lines := fun l => by rw [handTick_line]; exact bare.lines l
      watches := fun w => by rw [handTick_watch, watch_tick_eq]; exact bare.watches w }

/-- An ATTACH opens the caller's session, and no other (R142). -/
theorem openSession_hostsMove (s : State) (h : HostId) (period : Byte) :
    HostsMove s (s.openSession h period) := by
  refine ⟨fun g => ?_⟩
  by_cases e : g = h
  · subst e
    have session : (s.openSession g period).sessions[g] = s.sessions[g].opened period :=
      Vector.getElem_set_self ..
    refine .opened period session ?_
    rw [session]
    exact Vector.getElem_set_self ..
  · exact .of_kept (set_getElem_other _ _ e) (set_getElem_other _ _ e) fun _ bare => { bare with }

/-- The teardown leaves its host bare (R54, R55, R77, R111, R112, R134). -/
theorem teardown_bare (s : State) (h : HostId) : (s.teardown h).Bare h where
  entries := by rw [teardown_queue]
  pendingMisses := by rw [teardown_queue]; rfl
  subscription := by rw [teardown_subscriptions]; exact Vector.getElem_set_self ..
  outputs o := by
    rw [teardown_output]
    split
    · nofun
    · assumption
  lines l := by
    rw [teardown_line]
    dsimp only
    split
    · nofun
    · assumption
  watches w := by
    rw [teardown_watch, Watch.leave]
    split
    · nofun
    · assumption

/-- The teardown gives no other host anything. -/
theorem teardown_bare_other {g : HostId} (other : g ≠ h) (bare : s.Bare g) : (s.teardown h).Bare g where
  entries := by rw [teardown_queue_other s other]; exact bare.entries
  pendingMisses := by rw [teardown_queue_other s other]; exact bare.pendingMisses
  subscription := by
    rw [teardown_subscriptions]
    exact (set_getElem_other _ _ other).trans bare.subscription
  outputs o := by
    rw [teardown_output]
    split
    · nofun
    · exact bare.outputs o
  lines l := by
    rw [teardown_line]
    dsimp only
    split
    · nofun
    · exact bare.lines l
  watches w := by
    rw [teardown_watch, Watch.leave]
    split
    · nofun
    · exact bare.watches w

/-- A session end: the host ends and is torn down, and the other hosts stand as they were; then its session
record is offered (R151). -/
theorem endSession_hostsMoves (attached : s.sessions[h].state = .attached) (c : EndCause) :
    HostsMoves s (s.endSession h c) := by
  refine HostsMoves.then_offer (HostsMove.moves ⟨fun g => ?_⟩)
  have sessions := teardown_sessions (s.setSession h (s.sessions[h].ended c)) h
  have attention := teardown_attention (s.setSession h (s.sessions[h].ended c)) h
  by_cases e : g = h
  · subst e
    have session : ((s.setSession g (s.sessions[g].ended c)).teardown g).sessions[g] = s.sessions[g].ended c := by
      rw [sessions]
      exact Vector.getElem_set_self ..
    refine .ended c attached session ?_ (teardown_bare ..)
    rw [attention, sessions]
    exact Vector.getElem_set_self ..
  · refine .of_kept ?_ ?_ fun _ bare => teardown_bare_other e { bare with }
    · rw [sessions]; exact set_getElem_other _ _ e
    · rw [attention]; exact set_getElem_other _ _ e

/-- A reset or a soft restart, of every host. -/
theorem HostsMove.of_reset
    (session : ∀ g : HostId, ∃ x : Session, t.sessions[g] = x.restarted)
    (attention : ∀ g : HostId, t.attention[g] = Attention.cleared t.sessions[g])
    (queues : t.queues =
      Vector.replicate 4 { entries := [], pendingMisses := 0, missedTotal := 0, threshold := 1 })
    (subscriptions : t.subscriptions =
      Vector.replicate 4 { rise := 0, fall := 0, session := false, time := false })
    (outputs : ∀ o : OutputId, t.outputs[o].owner = none) (lines : ∀ l : LineId, t.lines[l].owner = none)
    (watches : t.watches = Vector.replicate 16 Watch.blank) : HostsMove s t := by
  refine ⟨fun g => ?_⟩
  obtain ⟨x, restarted⟩ := session g
  refine .reset x restarted (attention g) ?_
  exact
    { entries := by simp [queues]
      pendingMisses := by simp [queues]
      subscription := by simp [subscriptions]
      outputs := fun o => by rw [outputs]; nofun
      lines := fun l => by rw [lines]; nofun
      watches := fun w => by simp [watches, Watch.blank] }

theorem softRestart_hostsMove (s t : State) : HostsMove t s.softRestart :=
  .of_reset (fun g => ⟨s.sessions[g], map_getElem ..⟩)
    (fun g => (map_getElem ..).trans (congrArg Attention.cleared (map_getElem Session.restarted ..).symm))
    rfl rfl (fun o => by rw [State.softRestart, map_getElem]; rfl)
    (fun l => by rw [State.softRestart, map_getElem]; rfl) rfl

theorem hardReset_hostsMove (s t : State) (cause : ResetCause) (straps : HostSet) (levels : LineSet)
    (selects : HostSet) : HostsMove t (s.hardReset cause straps levels selects) := by
  refine .of_reset (fun g => ⟨Session.afterReset (holds straps g), ?_⟩) (fun g => ?_) rfl rfl (fun o => ?_)
    (fun l => ?_) rfl
  · simp only [State.hardReset, Fin.getElem_fin, Vector.getElem_ofFn]
    rfl
  · simp only [State.hardReset, Fin.getElem_fin, Vector.getElem_ofFn]
  · simp only [State.hardReset, Fin.getElem_fin, Vector.getElem_replicate]
  · simp only [State.hardReset, Fin.getElem_fin, Vector.getElem_ofFn]
    rfl

end Sys2Proof.Machine
end

section
/-!
SUPPORT. The moves of the hosts at each request and each event.
-/

namespace Sys2Proof.Machine

variable {s t u : State}

/-! ### Requests -/

/-- What holds of the state of a refusal, and of the state of the command's own reply to an ATTACHED caller,
holds of the reply behind the session stage (R140). -/
theorem ifAttached_keeps {p : State → Prop} {rq : Request} {k : Reply} (refused : p s)
    (taken : s.sessions[rq.host].state = .attached → p k.state) : p (ifAttached rq s k).state := by
  unfold ifAttached
  split
  · exact refused
  · exact refused
  · exact taken ‹_›

/-- The requests that only report. -/
theorem reporting_state {command : Request → State → Reply}
    (listed : command ∈ [hubStatusReply, readTimeReply, unknownReply, readSubscriptionsReply,
      lineStatusReply, watchReadReply, outStatusReply]) (rq : Request) (s : State) :
    (command rq s).state = s := by
  simp only [List.mem_cons, List.not_mem_nil, or_false] at listed
  rcases listed with rfl | rfl | rfl | listed
  · unfold hubStatusReply; split <;> rfl
  · unfold readTimeReply; split <;> rfl
  · rfl
  rcases listed with rfl | rfl | rfl | rfl
  all_goals
    refine ifAttached_state (p := fun u => u = s) rfl ?_
    repeat' split
    all_goals rfl

/-- The requests on the caller's own subscriptions, queue and attention. -/
theorem own_hostsMoves {command : Request → State → Reply}
    (listed : command ∈ [subscribeLinesReply, subscribeHubReply, readEventsReply, ackEventsReply,
      queueStatusReply, setAttentionReply, clearAttentionReply])
    (rq : Request) (s : State) : HostsMoves s (command rq s).state := by
  simp only [List.mem_cons, List.not_mem_nil, or_false] at listed
  rcases listed with rfl | rfl | rfl | rfl | rfl | rfl | rfl
  all_goals
    refine ifAttached_keeps .refl fun attached => ?_
    try dsimp only
    repeat' split
    all_goals try exact .refl
  · exact .single (.of_setSubscription attached _)
  · exact .single (.of_setSubscription attached _)
  · exact .of_foldl (fun u (e : Entry) => .single (showRecord_hostsMove u e.slot)) _ s
  · exact removeOldest_hostsMoves attached _
  · exact .single (.of_setQueue attached _)
  · refine .tail (.single (.of_evaluate attached _)) (.of_setQueue ?_ _)
    exact attached
  · exact .single (.of_evaluate attached _)

theorem dropFoldRefs_sessions (s : State) (l : LineId) : (s.dropFoldRefs l).sessions = s.sessions := by
  have one : ∀ (u : State) k, (u.dropFoldRef l k).sessions = u.sessions := fun u k => by
    rw [dropFoldRef_frame]
  exact (one _ .fall).trans (one s .rise)

theorem disarm_owner (x : Line) : x.disarm.owner = x.owner := by
  unfold Line.disarm
  split <;> rfl

/-- The requests on lines: LINE_CONFIGURE makes its ATTACHED caller the owner, LINE_RELEASE leaves none. -/
theorem lines_hostsMoves {command : Request → State → Reply}
    (listed : command ∈ [lineConfigureReply, lineArmReply, lineDisarmReply, lineReleaseReply])
    (rq : Request) (s : State) : HostsMoves s (command rq s).state := by
  simp only [List.mem_cons, List.not_mem_nil, or_false] at listed
  rcases listed with rfl | rfl | rfl | rfl
  all_goals
    refine ifAttached_keeps .refl fun attached => ?_
    try dsimp only
    repeat' split
    all_goals try exact .refl
  · refine .tail (dropFoldRefs_hostsMoves s _) (.of_setLine (.of_attached (h := rq.host) ?_ _))
    rw [dropFoldRefs_sessions]
    exact attached
  · exact .single (.of_mapLines (fun x => { x with state := .armed }) fun _ => .refl ..)
  · exact .single (.of_mapLines Line.disarm fun x => by rw [disarm_owner]; exact .refl ..)
  · exact .tail (HostsMoves.of_foldl dropFoldRefs_hostsMoves _ s)
      (.of_mapLines Line.unconfigured fun _ => .of_none ..)

theorem outputClaim_mayOwn {h : HostId} (attached : s.sessions[h].state = .attached) (x : Output) :
    s.MayOwn x.owner (x.claim h).owner := by
  unfold Output.claim
  split
  · exact .refl ..
  · exact .of_attached attached _

theorem seize_mayOwn {h : HostId} (attached : s.sessions[h].state = .attached) (x : Output) :
    s.MayOwn x.owner (x.seize h).owner := by
  unfold Output.seize
  split
  · exact .of_attached attached _
  · split
    · exact .refl ..
    · exact .of_attached attached _

theorem putSafe_owner (x : Output) (level : Level) : (x.putSafe level).owner = x.owner := by
  unfold Output.putSafe
  split <;> rfl

/-- The requests on outputs, OUT_SEIZE aside: OUT_CLAIM makes its ATTACHED caller the owner. -/
theorem outputs_hostsMoves {command : Request → State → Reply}
    (listed : command ∈ [outClaimReply, outReleaseReply, outDriveReply, outPulseReply, outBindReply,
      outUnbindReply, outSafeReply]) (rq : Request) (s : State) : HostsMoves s (command rq s).state := by
  simp only [List.mem_cons, List.not_mem_nil, or_false] at listed
  rcases listed with rfl | rfl | rfl | rfl | rfl | rfl | rfl
  all_goals
    refine ifAttached_keeps .refl fun attached => ?_
    try dsimp only
    repeat' split
    all_goals try exact .refl
    apply HostsMove.moves
  · exact .of_mapOutputs (fun _ x => x.claim rq.host) fun _ => outputClaim_mayOwn attached
  · exact .of_mapOutputs (fun _ x => x.release) fun _ _ => .of_none ..
  · rename_i levels _ _ _ _
    exact .of_mapOutputs (fun i x => { x with drive := Level.ofBit (holds levels i) }) fun _ _ => .refl ..
  · exact .of_setOutput (.refl ..)
  · exact .of_setOutput (.refl ..)
  · exact .of_setOutput (.refl ..)
  · rename_i levels _ _ _
    exact .of_mapOutputs (fun i x => x.putSafe (Level.ofBit (holds levels i))) fun _ x => by
      rw [putSafe_owner]; exact .refl ..

/-- OUT_SEIZE posts SEIZED, makes its ATTACHED caller the owner, and makes its offers (R130). -/
theorem outSeize_hostsMoves (rq : Request) (s : State) : HostsMoves s (outSeizeReply rq s).state := by
  refine ifAttached_keeps .refl fun attached => ?_
  repeat' split
  case h_1.isFalse.isFalse.isFalse =>
    rename_i outs _ _ _ _
    have posted : HostsMove s (s.postSeized rq.host outs) := by
      refine .of_posts (fun g => if s.anyOutput outs fun o => o.takenBy rq.host && o.owner == some g then
        Cause.seized.set else 0#5) rfl fun g => ?_
      rw [← ite_post]
      simp only [State.postSeized, Fin.getElem_fin, Vector.getElem_ofFn, Fin.eta]
    refine .then_offers (.tail posted.moves (.of_mapOutputs (fun _ x => x.seize rq.host) fun _ => ?_))
    exact seize_mayOwn attached
  all_goals exact .refl

/-- The requests on watch entries: WATCH_INSTALL makes its ATTACHED caller the owner. -/
theorem watches_hostsMoves {command : Request → State → Reply}
    (listed : command ∈ [watchInstallReply, watchCancelReply]) (rq : Request) (s : State) :
    HostsMoves s (command rq s).state := by
  simp only [List.mem_cons, List.not_mem_nil, or_false] at listed
  rcases listed with rfl | rfl
  all_goals
    refine ifAttached_keeps .refl fun attached => ?_
    try dsimp only
    repeat' split
    all_goals try exact .refl
    apply HostsMove.moves
  · exact .of_setWatch (.of_attached attached _)
  · exact .of_setWatch (.of_none ..)

/-- The requests that make one offer and end no session. -/
theorem offering_hostsMoves {command : Request → State → Reply}
    (listed : command ∈ [attachReply, sendNoteReply, adjustTimeReply])
    (rq : Request) (s : State) : HostsMoves s (command rq s).state := by
  simp only [List.mem_cons, List.not_mem_nil, or_false] at listed
  rcases listed with rfl | rfl | rfl
  · unfold attachReply
    repeat' split
    case h_1 => exact .then_offer (openSession_hostsMove ..).moves
    all_goals exact .refl
  all_goals
    refine ifAttached_state .refl ?_
    try dsimp only
    repeat' split
  case h_2.isFalse.isFalse =>
    unfold noteReply
    split
    · exact .refl
    · exact .refl
    · exact offer_hostsMoves ..
    · exact offer_hostsMoves ..
  case h_1.isFalse.isFalse =>
    exact .then_offer (HostsMove.moves (.of_fields rfl rfl rfl rfl rfl rfl rfl))
  all_goals exact .refl

/-- The requests that end sessions: DETACH its ATTACHED caller's, EVICT an ATTACHED target's, RESTART_HUB all. -/
theorem ending_hostsMoves {command : Request → State → Reply}
    (listed : command ∈ [detachReply, evictReply, restartHubReply]) (rq : Request) (s : State) :
    HostsMoves s (command rq s).state := by
  simp only [List.mem_cons, List.not_mem_nil, or_false] at listed
  rcases listed with rfl | rfl | rfl
  all_goals
    refine ifAttached_keeps .refl fun attached => ?_
    repeat' split
    all_goals try exact .refl
  · exact endSession_hostsMoves attached .detach
  · rename_i target
    rw [Bool.not_eq_false, isAttached_iff] at target
    exact endSession_hostsMoves target _
  · exact (softRestart_hostsMove s s).moves

/-- Every request, whatever its code (R188). -/
theorem commandOf_hostsMoves (code : Byte) (rq : Request) (s : State) :
    HostsMoves s (commandOf code rq s).state := by
  have reported : ∀ {t : State}, t = s → HostsMoves s t := by rintro _ rfl; exact .refl
  change (fun command : Request → State → Reply => HostsMoves s (command rq s).state) (commandOf code)
  unfold commandOf
  split
  case h_2 | h_3 | h_4 => exact ending_hostsMoves (by simp) rq s
  case h_1 | h_6 | h_8 => exact offering_hostsMoves (by simp) rq s
  case h_9 | h_10 | h_12 | h_13 | h_14 | h_32 | h_33 => exact own_hostsMoves (by simp) rq s
  case h_15 | h_16 | h_17 | h_18 => exact lines_hostsMoves (by simp) rq s
  case h_20 | h_21 => exact watches_hostsMoves (by simp) rq s
  case h_23 | h_24 | h_25 | h_26 | h_27 | h_28 | h_30 => exact outputs_hostsMoves (by simp) rq s
  case h_29 => exact outSeize_hostsMoves rq s
  all_goals exact reported (reporting_state (by simp) rq s)

theorem takeFrame_hostsMoves (s : State) (h : HostId) (code tag : Byte) (payload : List Byte) :
    HostsMoves s (s.takeFrame h code tag payload) := by
  have restarted := (restarted_hostsMove s h).moves
  unfold State.takeFrame
  split
  · rw [State.takeRepeat, restartTimer_eq]
    exact .tail restarted (.of_fields rfl rfl rfl rfl rfl rfl rfl)
  · rw [take_eq]
    exact .tail (restarted.trans (commandOf_hostsMoves ..)) (.of_fields rfl rfl rfl rfl rfl rfl rfl)

/-! ### Events -/

theorem handOut_hostsMoves (s : State) (levels : LineSet) : HostsMoves s (s.handOut levels) :=
  .tail (handTick_hostsMove s levels).moves (.of_fields rfl rfl rfl rfl rfl rfl rfl)

theorem count_hostsMove (s : State) : HostsMove s s.count := .of_fields rfl rfl rfl rfl rfl rfl rfl

theorem wrap_hostsMoves (s : State) : HostsMoves s s.wrap :=
  .then_offer (HostsMove.moves (.of_fields rfl rfl rfl rfl rfl rfl rfl))

theorem tick_hostsMoves (event : TickEvent) (e : execTick event s = .next t) : HostsMoves s t := by
  unfold execTick at e
  repeat' split at e
  all_goals cases e
  · exact handOut_hostsMoves ..
  · exact .tail (count_hostsMove s).moves (handTick_hostsMove ..)
  · exact handOut_hostsMoves ..
  · exact (count_hostsMove s).moves

theorem timeWrap_hostsMoves (levels : LineSet) (e : execTimeWrap levels s = .next t) : HostsMoves s t := by
  unfold execTimeWrap at e
  repeat' split at e
  all_goals cases e
  · exact wrap_hostsMoves s
  · exact (handTick_hostsMove s levels).moves.trans (wrap_hostsMoves _)

theorem qualificationStart_hostsMoves (l : LineId) (e : execQualificationStart l s = .next t) :
    HostsMoves s t := by
  unfold execQualificationStart State.startQualification at e
  repeat' split at e
  all_goals cases e
  · exact qualifyEdge_hostsMoves ..
  · exact HostsMove.moves (.of_setLine (.refl ..))

theorem glitch_hostsMoves (l : LineId) (e : execGlitch l s = .next t) : HostsMoves s t := by
  unfold execGlitch at e
  split at e <;> cases e
  exact HostsMove.moves (.of_setLine (.refl ..))

theorem qualifiedEdge_hostsMoves (l : LineId) (e : execQualifiedEdge l s = .next t) : HostsMoves s t := by
  unfold execQualifiedEdge at e
  split at e <;> split at e <;> cases e <;> exact qualifyEdge_hostsMoves ..

/-- A check leaves an entry its owner, or frees it. -/
theorem check_mayOwn (s : State) (x : Watch) (matching : Bool) :
    s.MayOwn x.owner (x.check matching).entry.owner := by
  rcases check_entry x matching with freed | ⟨_, _, _, _, same, _⟩
  · rw [freed]; exact .of_none ..
  · rw [same]; exact .refl ..

/-- The end of an entry: its change, its offer and its posting (R102, R103, R105). -/
theorem endWatch_hostsMoves (w : WatchId) (kind : Kind) {after : Watch}
    (owner : s.MayOwn s.watches[w].owner after.owner) : HostsMoves s (s.endWatch w kind after) := by
  have offered : HostsMoves s ((s.setWatch w after).offer
      (watchOffer kind w s.watches[w] s.hubTime s.settledLevels)).1 :=
    .then_offer (HostsMove.of_setWatch owner).moves
  have posted : ∀ (u : State) (h : HostId) (c : Cause), HostsMove u (u.post h c) := by
    refine fun u h c => .of_posts (fun g => if g = h then c.set else 0#5) rfl fun g => ?_
    by_cases e : g = h
    · subst e
      rw [if_pos rfl]
      exact Vector.getElem_set_self ..
    · rw [if_neg e, post_none]
      exact set_getElem_other _ _ e
  unfold State.endWatch
  dsimp only
  split
  · exact offered
  · exact .tail offered (posted ..)

theorem checkExpiry_hostsMoves (w : WatchId) (e : execCheckExpiry w s = .next t) : HostsMoves s t := by
  unfold execCheckExpiry at e
  split at e
  · have owner := check_mayOwn s s.watches[w]
      (s.watches[w].sampleOf s.settledLevels == s.watches[w].pattern)
    dsimp only at e
    split at e <;> cases e <;> rename_i result <;> rw [result] at owner
    · exact (HostsMove.of_setWatch owner).moves
    · exact endWatch_hostsMoves w _ owner
    · exact endWatch_hostsMoves w _ owner
  · cases e

theorem pulseExpiry_hostsMoves (o : OutputId) (e : execPulseExpiry o s = .next t) : HostsMoves s t := by
  unfold execPulseExpiry at e
  repeat' split at e
  all_goals cases e
  exact HostsMove.moves (.of_setOutput (.refl ..))

/-- A timer that is due is that of an ATTACHED host (R145). -/
theorem supervisionExpiry_hostsMoves (h : HostId) (e : execSupervisionExpiry h s = .next t) :
    HostsMoves s t := by
  unfold execSupervisionExpiry at e
  split at e <;> cases e
  rename_i due
  rw [Session.expiryDue, Bool.and_eq_true, beq_iff_eq] at due
  exact endSession_hostsMoves due.1 .timeout

theorem byteCompletes_hostsMoves (h : HostId) (byte : Byte) (e : execByteCompletes h byte s = .next t) :
    HostsMoves s t := by
  have port : ∀ p, HostsMoves s (s.setPort h p) := fun _ =>
    HostsMove.moves (.of_fields rfl rfl rfl rfl rfl rfl rfl)
  unfold execByteCompletes at e
  split at e <;> cases e
  · exact .refl
  · unfold State.receiveByte
    repeat' split
    case h_2.isFalse.isTrue => exact takeFrame_hostsMoves ..
    case h_2.isFalse.isFalse =>
      exact HostsMove.moves (.of_fields rfl rfl rfl rfl rfl rfl rfl)
    all_goals exact port _
  · exact port _
  · unfold State.sendByte
    dsimp only
    repeat' split
    all_goals exact HostsMove.moves (.of_fields rfl rfl rfl rfl rfl rfl rfl)
  · exact port _

theorem request_hostsMoves {i : Instr} {f : RequestFrame} (frame : i.frame? = some f)
    (e : exec i s = .next t) : HostsMoves s t := by
  rw [exec_request frame] at e
  split at e <;> cases e
  exact takeFrame_hostsMoves ..

/-- What a command does to the hosts: moves of each. -/
theorem exec_hostsMoves {c : Instr} (e : exec c s = .next t) : HostsMoves s t := by
  cases c
  case powerOnReset => cases e; exact (hardReset_hostsMove s s ..).moves
  case externalReset => cases e; exact (hardReset_hostsMove s s ..).moves
  case tick event => exact tick_hostsMoves event e
  case timeWrap levels => exact timeWrap_hostsMoves levels e
  case qualificationStart l => exact qualificationStart_hostsMoves l e
  case glitch l => exact glitch_hostsMoves l e
  case qualifiedEdge l => exact qualifiedEdge_hostsMoves l e
  case checkExpiry w => exact checkExpiry_hostsMoves w e
  case pulseExpiry o => exact pulseExpiry_hostsMoves o e
  case supervisionExpiry h => exact supervisionExpiry_hostsMoves h e
  case byteCompletes h byte => exact byteCompletes_hostsMoves h byte e
  case frameError | frameRefusedForLength | frameDiscarded | responseSent | selectFalls | selectRises =>
    simp only [exec, execFrameError, execFrameRefusedForLength, execFrameDiscarded, execResponseSent,
      execSelectFalls, execSelectRises] at e
    repeat' split at e
    all_goals cases e
    all_goals exact HostsMove.moves (.of_fields rfl rfl rfl rfl rfl rfl rfl)
  all_goals exact request_hostsMoves rfl e

end Sys2Proof.Machine
end

section
/-!
CLAIM. The laws of the Session Controller and of the Attention Unit are kept by every step (O55, O56).
-/

namespace Sys2Proof.Machine

variable {s t : State} {h : HostId}

/-! ### The laws, host by host -/

/-- The law of the Session Controller, of one host (R141). -/
def State.BareLaw (s : State) (h : HostId) : Prop := s.sessions[h].state ≠ .attached → s.Bare h

theorem bareLaw_iff (s : State) : s.SessionLaw ↔ ∀ h : HostId, s.BareLaw h := by
  refine forall_congr' fun h => imp_congr ?_ ⟨?_, ?_⟩
  · rw [← Bool.not_eq_true, isAttached_iff]
  · rintro ⟨entries, pendingMisses, subscription, outputs, lines, watches⟩
    exact ⟨entries, pendingMisses, subscription, outputs, lines, watches⟩
  · rintro ⟨entries, pendingMisses, subscription, outputs, lines, watches⟩
    exact ⟨entries, pendingMisses, subscription, outputs, lines, watches⟩

/-- What the notice flag, the loss reason, the period, the timer and the causes are in each session state
(R138, R151, R153, R164). -/
structure NoticeRule (x : Session) (a : Attention) : Prop where
  attached : x.state = .attached → x.notice = false ∧ x.loss = .noLoss
  detached : x.state = .detached → x.loss = .noLoss
  lost : x.state = .lost → x.notice = true ∧ x.loss ≠ .noLoss
  away : x.state ≠ .attached → x.period = 0#8 ∧ x.timer = none ∧ a.posted = 0#5 ∧ a.enabled = 0#5

theorem noticeRule_iff (s : State) :
    s.NoticeLaw ↔ ∀ h : HostId, NoticeRule s.sessions[h] s.attention[h] :=
  forall_congr' fun _ => ⟨fun ⟨attached, detached, lost, away⟩ => ⟨attached, detached, lost, away⟩,
    fun ⟨attached, detached, lost, away⟩ => ⟨attached, detached, lost, away⟩⟩

theorem attentionCondition_iff (x : Session) (a : Attention) : attentionCondition x a = true ↔
    (x.state = .attached ∧ a.posted &&& a.enabled ≠ 0#5) ∨ (x.state ≠ .attached ∧ x.notice = true) := by
  unfold attentionCondition
  split
  · rename_i attached
    simp [attached]
  · rename_i away
    simp [away]

/-- The law of the Attention Unit: every output is at its condition (R164). -/
theorem attentionLaw_iff (s : State) : s.AttentionLaw ↔
    ∀ h : HostId, s.attention[h].asserted = attentionCondition s.sessions[h] s.attention[h] := by
  refine forall_congr' fun h => ?_
  exact (iff_congr Iff.rfl (attentionCondition_iff ..).symm).trans Bool.eq_iff_iff.symm

/-! ### Every move keeps them -/

theorem HostMove.keeps_bareLaw (move : HostMove s t h) (law : s.BareLaw h) : t.BareLaw h := by
  cases move with
  | served attached timer session => exact fun away => absurd (by rw [session]; exact attached) away
  | away away timer stopped session attention bare => exact fun _ => bare (law away)
  | opened period session => exact fun away => absurd (by rw [session]; rfl) away
  | ended c attached session attention bare => exact fun _ => bare
  | reset x session attention bare => exact fun _ => bare

/-- A session end makes of an ATTACHED host's notice and loss reason what the state it ends in has. -/
theorem ended_noticeRule {x : Session} {a : Attention} (law : NoticeRule x a) (attached : x.state = .attached)
    (c : EndCause) : NoticeRule (x.ended c) (Attention.cleared (x.ended c)) := by
  have idle : (x.ended c).period = 0#8 ∧ (x.ended c).timer = none := by cases c <;> exact ⟨rfl, rfl⟩
  refine ⟨?_, ?_, ?_, fun _ => ⟨idle.1, idle.2, rfl, rfl⟩⟩ <;> cases c
  case refine_2.detach => exact fun _ => (law.attached attached).2
  case refine_3.timeout | refine_3.evict => exact fun _ => ⟨rfl, nofun⟩
  all_goals nofun

theorem HostMove.keeps_noticeRule (move : HostMove s t h) (law : NoticeRule s.sessions[h] s.attention[h]) :
    NoticeRule t.sessions[h] t.attention[h] := by
  cases move with
  | served attached timer session =>
    rw [session]
    exact ⟨law.attached, law.detached, law.lost, fun away => absurd attached away⟩
  | away away timer stopped session attention =>
    rw [session, attention]
    obtain ⟨period, timer, causes⟩ := law.away away
    exact ⟨law.attached, law.detached, law.lost, fun _ => ⟨period, stopped timer, causes⟩⟩
  | opened period session attention =>
    rw [attention, session]
    exact ⟨fun _ => ⟨rfl, rfl⟩, nofun, nofun, fun away => absurd rfl away⟩
  | ended c attached session attention =>
    rw [attention, session]
    exact ended_noticeRule law attached c
  | reset x session attention =>
    rw [attention, session]
    exact ⟨nofun, fun _ => rfl, nofun, fun _ => ⟨rfl, rfl, rfl, rfl⟩⟩

theorem HostMove.keeps_condition (move : HostMove s t h)
    (law : s.attention[h].asserted = attentionCondition s.sessions[h] s.attention[h]) :
    t.attention[h].asserted = attentionCondition t.sessions[h] t.attention[h] := by
  cases move with
  | served attached timer session attention =>
    rw [session]
    rcases attention with same | ⟨a, evaluated⟩
    · rw [same]; exact law
    · rw [evaluated]; rfl
  | away away timer stopped session attention => rw [session, attention]; exact law
  | opened period session attention => rw [attention]; rfl
  | ended c attached session attention => rw [attention]; rfl
  | reset x session attention => rw [attention]; rfl

/-! ### Every step -/

/-- What every move of a host keeps of it, every step keeps of the hosts. -/
theorem step_keeps_hosts {p : State → HostId → Prop}
    (queue : ∀ (s : State) (q : List Instr) (h : HostId), p s h → p { s with pending := q } h)
    (keeps : ∀ {s t : State} {h : HostId}, HostMove s t h → p s h → p t h) {s t : State}
    (law : ∀ h : HostId, p s h) (e : step s = .next t) : ∀ h : HostId, p t h := by
  refine step_keeps (p := fun u => ∀ h : HostId, p u h) (fun s q law h => queue s q h (law h))
    (fun c u v law e => ?_) law e
  have moves := exec_hostsMoves e
  clear e
  induction moves with
  | refl => exact law
  | tail _ last ih => exact fun h => keeps (last.host h) (ih h)

/-- Settles O55: the law is one of every host, and every move of a host keeps it. -/
theorem stepKeepsTheSessionLaw : Obligations.StepKeepsTheSessionLaw := by
  intro s t law e
  rw [bareLaw_iff] at law ⊢
  exact step_keeps_hosts (p := State.BareLaw) (fun _ _ _ law away => { law away with })
    HostMove.keeps_bareLaw law e

/-- Settles O56: both laws are of every host, and every move of a host keeps them. -/
theorem stepKeepsTheNoticeAndAttentionLaws : Obligations.StepKeepsTheNoticeAndAttentionLaws := by
  refine ⟨fun s t law e => ?_, fun s t law e => ?_⟩
  · rw [noticeRule_iff] at law ⊢
    exact step_keeps_hosts (p := fun u h => NoticeRule u.sessions[h] u.attention[h]) (fun _ _ _ => id)
      HostMove.keeps_noticeRule law e
  · rw [attentionLaw_iff] at law ⊢
    exact step_keeps_hosts
      (p := fun u h => u.attention[h].asserted = attentionCondition u.sessions[h] u.attention[h])
      (fun _ _ _ => id) HostMove.keeps_condition law e

end Sys2Proof.Machine
end

section
/-!
CLAIM. A session end gives back all that its host held, block by block (O17).
-/

namespace Sys2Proof.Machine

variable {s : State} {h : HostId}

/-- A host that is no holder of a record leaves it as it is. -/
theorem dropHolder_other {slot : Option Record}
    (used : ∀ r ∈ slot, r.holders ≠ 0#4 ∧ holds r.holders h = false) : dropHolder h slot = slot := by
  cases slot with
  | none => rfl
  | some r =>
    obtain ⟨nonempty, other⟩ := used r (Option.mem_some_self r)
    have same : without r.holders h = r.holders := set_ext fun g => by
      rw [holds_without]
      by_cases e : g = h
      · subst e; simp [other]
      · simp [e]
    simp only [dropHolder, same, nonempty, if_false]

/-- The removal of all of a host's entries takes the host from every record (R2, R24). -/
theorem removeAll_slot (holder : s.HolderLaw) (queue : s.QueueLaw) (fold : s.FoldLaw) (h : HostId) (i : SlotId) :
    (s.removeOldest h s.queues[h].entries.length).slots[i] = dropHolder h s.slots[i] := by
  obtain ⟨_, once⟩ := queue h
  obtain ⟨_, slots, _⟩ := removeOldest_spec fold h s.queues[h].entries.length once
  rw [slots, List.take_length]
  split
  · rfl
  · rename_i unreferred
    refine (dropHolder_other fun r found => ?_).symm
    obtain ⟨nonempty, refers⟩ := (holder i).2 r found
    refine ⟨nonempty, Bool.eq_false_iff.mpr fun member => unreferred ?_⟩
    obtain ⟨e, listed, slot⟩ := (refers h).mp member
    exact List.any_eq_true.mpr ⟨e, listed, beq_iff_eq.mpr slot⟩

/-- The fold references that are left when a host's entries are removed are those to records still in use
(R24, R72). -/
theorem removeAll_line (queue : s.QueueLaw) (fold : s.FoldLaw) (h : HostId) (l : LineId) :
    (s.removeOldest h s.queues[h].entries.length).lines[l] = s.lines[l].keep
      fun i => (s.removeOldest h s.queues[h].entries.length).slots[i].isNone := by
  obtain ⟨_, once⟩ := queue h
  obtain ⟨_, _, lines, _⟩ := removeOldest_spec fold h s.queues[h].entries.length once
  exact lines l

/-- The attention state of a host whose session has ended follows the notice flag (R164, R170). -/
theorem ended_cleared (x : Session) (c : EndCause) : Attention.cleared (x.ended c) =
    { posted := 0, enabled := 0, asserted := (x.ended c).notice } := by
  cases c <;> rfl

/-- Settles O17: the session ended and torn down, before its record is offered. -/
theorem sessionEndGivesEverythingBack : Obligations.SessionEndGivesEverythingBack := by
  intro s h c holder queue fold
  have ended : (s.setSession h (s.sessions[h].ended c)).sessions[h] = s.sessions[h].ended c :=
    Vector.getElem_set_self ..
  refine ⟨(s.setSession h (s.sessions[h].ended c)).teardown h, ?offer, ?frame, ?session, teardown_queue ..,
    ?subscription, ?attention, fun g other => ⟨?_, ?_, ?_, ?_⟩, fun i => ?slot, fun l => ?line,
    fun w => ?watch, fun o => ?output⟩
  case offer => cases c <;> rfl
  case frame =>
    rw [teardown_sessions]
    exact teardown_frame ..
  case session =>
    rw [teardown_sessions, ended]
    cases c <;> rfl
  case subscription =>
    rw [teardown_subscriptions]
    exact Vector.getElem_set_self ..
  case attention =>
    rw [teardown_attention, teardown_sessions, ended, ← ended_cleared]
    exact Vector.getElem_set_self ..
  · rw [teardown_sessions]
    exact set_getElem_other _ _ other
  · exact teardown_queue_other _ other
  · rw [teardown_subscriptions]
    exact set_getElem_other _ _ other
  · rw [teardown_attention]
    exact set_getElem_other _ _ other
  case slot => exact removeAll_slot (s := s.setSession h (s.sessions[h].ended c)) holder queue fold h i
  case line =>
    rw [teardown_line, removeAll_line (s := s.setSession h (s.sessions[h].ended c)) queue fold]
    rfl
  case watch => exact teardown_watch ..
  case output => exact teardown_output ..

end Sys2Proof.Machine
end

section
/-!
CLAIM. The session stage (R140) and the requests of the Session Controller: ATTACH, DETACH, EVICT, RESTART_HUB
and SEND_NOTE, with the supervision expiry (O4, O5, O14, O15, O16, O18).
-/

namespace Sys2Proof.Machine

variable {s : State} {h : HostId}

/-! ### The session stage (R140) -/

/-- A request row that can come is answered as the command of its code says, REPEAT_RESPONSE aside. -/
theorem command_answeredWith {i : Instr} {f : RequestFrame} (wellFormed : i.wellFormed = true)
    (frame : i.frame? = some f) (awaits : s.awaits i = true) (stores : f.code ≠ 0x06#8) :
    AnsweredWith i s (commandOf f.code ⟨f.host, s.hubTime, f.payload⟩ (s.restarted f.host)) := by
  have known : Instr.known i = true := by
    cases i
    case unknownCommand => exact (Bool.and_eq_true_iff.mp wellFormed).2
    all_goals rfl
  have awaited : s.ports[f.host].awaitsCrc f.code f.tag f.payload = true := by
    simpa only [State.awaits, frame] using awaits
  simp only [AnsweredWith, Answers, frame]
  rw [exec_request frame, known, awaited, State.takeFrame, if_neg stores, take_eq]
  rfl

/-- Every command of the table but ATTACH, HUB_STATUS, REPEAT_RESPONSE and READ_TIME is behind the session
stage. -/
theorem commandOf_ifAttached {code : Byte} (listed : code ∈ tableCodes)
    (asks : code ∉ [0x01#8, 0x05#8, 0x06#8, 0x10#8]) (rq : Request) (u : State) :
    ∃ k, commandOf code rq u = ifAttached rq u k := by
  simp only [tableCodes, List.mem_cons, List.not_mem_nil, or_false, not_or] at listed asks
  obtain ⟨notAttach, notStatus, notRepeat, notTime⟩ := asks
  rcases listed with rfl | rfl | rfl | rfl | rfl | rfl | rfl | rfl | rfl | rfl | rfl | rfl | rfl | rfl | rfl |
    rfl | rfl | rfl | rfl | rfl | rfl | rfl | rfl | rfl | rfl | rfl | rfl | rfl | rfl | rfl | rfl | rfl | rfl | rfl
  case inl => exact absurd rfl notAttach
  case inr.inr.inr.inr.inl => exact absurd rfl notStatus
  case inr.inr.inr.inr.inr.inl => exact absurd rfl notRepeat
  case inr.inr.inr.inr.inr.inr.inr.inl => exact absurd rfl notTime
  all_goals exact ⟨_, rfl⟩

theorem ifAttached_detached {rq : Request} {u : State} {k : Reply}
    (detached : u.sessions[rq.host].state = .detached) : ifAttached rq u k = refuse u .notAttached := by
  rw [ifAttached, detached]

theorem ifAttached_lost {rq : Request} {u : State} {k : Reply}
    (lost : u.sessions[rq.host].state = .lost) : ifAttached rq u k = refuse u .lost := by
  rw [ifAttached, lost]

/-- Settles O5: the reply of the command of the code, at its first stage. -/
theorem sessionStageRefuses : Obligations.SessionStageRefuses := by
  intro i f s wellFormed frame awaits
  have caller : i.frame?.map RequestFrame.host = some f.host := by rw [frame]; rfl
  refine ⟨fun attached attach => ?_, fun listed asks => ?_⟩
  · have answers := command_answeredWith wellFormed frame awaits (by rw [attach]; decide)
    have already : (s.restarted f.host).isAttached f.host = true := by
      rw [restarted_isAttached]
      exact (isAttached_iff ..).mpr attached
    have refused : commandOf f.code ⟨f.host, s.hubTime, f.payload⟩ (s.restarted f.host) =
        refuse (s.restarted f.host) .alreadyAttached := by
      rw [attach]
      exact if_pos already
    rw [refused] at answers
    exact answers.refuses caller
  · have stores : f.code ≠ 0x06#8 := fun e => asks (by rw [e]; decide)
    have answers := command_answeredWith wellFormed frame awaits stores
    obtain ⟨k, behind⟩ := commandOf_ifAttached listed asks ⟨f.host, s.hubTime, f.payload⟩ (s.restarted f.host)
    rw [behind] at answers
    refine ⟨fun detached => ?_, fun lost => ?_⟩
    · rw [ifAttached_detached ((restarted_session_state ..).trans detached)] at answers
      exact answers.refuses caller
    · rw [ifAttached_lost ((restarted_session_state ..).trans lost)] at answers
      exact answers.refuses caller

/-! ### ATTACH (R142) -/

/-- The taking restarts no timer of a host that is not ATTACHED (R144). -/
theorem restarted_away (away : s.sessions[h].state ≠ .attached) : s.restarted h = s := if_neg away

/-- The session an ATTACH opens, with no cause posted or enabled (R142, R169). -/
theorem openSession_eq (s : State) (h : HostId) (period : Byte) : s.openSession h period = { s with
    sessions := s.sessions.set h { s.sessions[h] with
      state := .attached, number := s.sessions[h].number + 1#8, notice := false, loss := .noLoss
      period := period
      timer := if period = 0#8 then none else some { remaining := period.toNat * 10000, due := false } }
    attention := s.attention.set h { posted := 0, enabled := 0, asserted := false } } := rfl

theorem openSession_session (s : State) (h : HostId) (period : Byte) :
    (s.openSession h period).sessions[h] = s.sessions[h].opened period :=
  Vector.getElem_set_self ..

/-- Settles O14: the refusals, then the session opened and its record offered. -/
theorem attachOpensASession : Obligations.AttachOpensASession := by
  intro h tag payload s awaits
  have answers : AnsweredWith (.attach h tag payload) s
      (attachReply ⟨h, s.hubTime, payload⟩ (s.restarted h)) :=
    request_answers (i := .attach h tag payload) rfl rfl awaits
  refine answers.stage rfl (by rw [restarted_isAttached, isAttached_iff]) fun away answers => ?_
  rcases payload with _ | ⟨period, _ | _⟩
  case cons.nil =>
    dsimp only at answers ⊢
    rw [restarted_away away, openSession_session] at answers
    rw [← openSession_eq, ← privilege_byte_eq]
    exact answers
  all_goals exact answers.refuses rfl

/-! ### DETACH and SUPERVISION_EXPIRY (R145, R147) -/

/-- Settles O15: the payload's check and the session end; and the expiry of a timer that is due. -/
theorem detachAndTimeoutCloseTheSession : Obligations.DetachAndTimeoutCloseTheSession := by
  refine ⟨fun h tag payload s awaits attached => ?_, fun h s remaining attached timer => ?_⟩
  · have answers := attached_answeredWith (i := .detach h tag payload) (command := detachReply) rfl rfl
      (fun _ _ => rfl) awaits attached
    refine answers.stage rfl Iff.rfl fun _ answers => ?_
    have number : (s.restarted h).sessions[h].number = s.sessions[h].number := restarted_session_number s h h
    dsimp only at answers
    rw [number] at answers
    exact answers
  · have due : s.sessions[h].expiryDue = true := by rw [Session.expiryDue, attached, timer]; rfl
    exact if_pos due

/-! ### EVICT (R148, R149) -/

/-- Settles O16: the checks in their order, then the target's session end. -/
theorem evictEndsTheTargetsSession : Obligations.EvictEndsTheTargetsSession := by
  intro h tag payload s awaits attached
  have answers := attached_answeredWith (i := .evict h tag payload) (command := evictReply) rfl rfl
    (fun _ _ => rfl) awaits attached
  rcases payload with _ | ⟨b, _ | _⟩
  case cons.nil =>
    dsimp only at answers ⊢
    rw [numbered] at answers
    split
    · rename_i hb
      rw [dif_pos hb] at answers
      refine answers.stage rfl Iff.rfl fun _ answers => ?_
      refine answers.stage rfl (by rw [restarted_isSupervisor, not_isSupervisor_iff]) fun _ answers => ?_
      refine answers.stage rfl (by rw [restarted_isSupervisor]; exact beq_iff_eq) fun _ answers => ?_
      refine answers.stage rfl ?_ fun _ answers => ?_
      · rw [restarted_isAttached, ← Bool.not_eq_true, isAttached_iff]
      have number : (s.restarted h).sessions[(⟨b.toNat, hb⟩ : HostId)].number =
          s.sessions[(⟨b.toNat, hb⟩ : HostId)].number := restarted_session_number s h ⟨b.toNat, hb⟩
      rw [number] at answers
      exact answers
    · rename_i outside
      rw [dif_neg outside] at answers
      exact answers.refuses rfl
  all_goals exact answers.refuses rfl

/-! ### RESTART_HUB (R157, R158) -/

/-- The taking restarts a timer, and changes nothing but sessions (R144). -/
theorem restarted_frame (s : State) (h : HostId) :
    s.restarted h = { s with sessions := (s.restarted h).sessions } := by
  unfold State.restarted
  dsimp only
  split <;> rfl

/-- A soft restart does away with the timer that the taking has restarted, and with every other. -/
theorem softRestart_session (s : State) (h g : HostId) :
    (s.restarted h).softRestart.sessions[g] = s.sessions[g].restarted := by
  obtain ⟨timer, session⟩ := restarted_session s h g
  rw [State.softRestart, map_getElem, session]
  rfl

theorem softRestart_attention (s : State) (g : HostId) :
    s.softRestart.attention[g] = { posted := 0, enabled := 0, asserted := true } := map_getElem ..

/-- What a soft restart leaves of the state before the taking (R158). -/
theorem softRestart_frame (s : State) (h : HostId) :
    let u := (s.restarted h).softRestart
    u = { s with
      slots := u.slots, queues := u.queues, subscriptions := u.subscriptions, lines := u.lines
      watches := u.watches, outputs := u.outputs, sessions := u.sessions, resetCause := .soft
      attention := u.attention, ports := u.ports } := by
  dsimp only
  rw [restarted_frame]
  rfl

/-- Settles O4: the checks in their order, then every block restarted. -/
theorem restartHubIsASoftRestart : Obligations.RestartHubIsASoftRestart := by
  intro h tag payload s awaits attached
  have answers := attached_answeredWith (i := .restartHub h tag payload) (command := restartHubReply) rfl rfl
    (fun _ _ => rfl) awaits attached
  refine answers.stage rfl Iff.rfl fun _ answers => ?_
  refine answers.stage rfl (by rw [restarted_isSupervisor, not_isSupervisor_iff]) fun _ answers => ?_
  rw [restarted_attachedSet, restarted_nextSeq] at answers
  refine ⟨(s.restarted h).softRestart, s.attachedSet, fun g => ?attached, answers, softRestart_frame s h,
    fun i => ?slot, fun g => ⟨?queue, ?subscription, softRestart_session s h g, softRestart_attention _ g, ?port⟩,
    fun l => ?line, fun w => ?watch, fun o => ?output⟩
  case attached => rw [State.attachedSet, holds_setOf, isAttached_iff]
  case slot => exact Vector.getElem_replicate ..
  case queue => exact Vector.getElem_replicate ..
  case subscription => exact Vector.getElem_replicate ..
  case watch => exact Vector.getElem_replicate ..
  case port => rw [State.softRestart, map_getElem, restarted_ports]
  case line => rw [State.softRestart, map_getElem, restarted_lines]; rfl
  case output => rw [State.softRestart, map_getElem, restarted_outputs]; rfl

/-! ### SEND_NOTE (R155) -/

/-- A target byte names a set of hosts, unless it has a bit above them (R155). -/
theorem hostSet?_eq (b : Byte) : hostSet? b = if b &&& 0xF0#8 = 0#8 then some (b.setWidth 4) else none := rfl

/-- With no bit above the hosts, no host is named exactly where the byte is 0. -/
theorem setWidth_eq_zero {b : Byte} (fits : b &&& 0xF0#8 = 0#8) : b.setWidth 4 = 0#4 ↔ b = 0#8 := by
  have named := hostSet?_eq_some (if_pos fits : hostSet? b = some (b.setWidth 4))
  refine ⟨fun empty => ?_, fun zero => by rw [zero]; rfl⟩
  rw [empty] at named
  exact named

/-- The hosts that a target byte names and that are ATTACHED. -/
theorem holds_effective (s : State) (b : Byte) (g : HostId) :
    holds (b.setWidth 4 &&& s.attachedSet) g = true ↔
      b.getLsbD g.val = true ∧ s.sessions[g].state = .attached := by
  rw [holds_and, State.attachedSet, holds_setOf, Bool.and_eq_true, isAttached_iff, holds, BitVec.getLsbD_setWidth]
  simp [g.isLt]

/-- A NOTE whose targets are ATTACHED and not none is routed (R13, R31). -/
theorem note_routed {o : Offer} (note : o.kind = .note) (some_target : o.named ≠ 0#4)
    (attached : ∀ g : HostId, holds o.named g = true → s.sessions[g].state = .attached) :
    (s.offer o).2 ≠ .unrouted := by
  have routing : s.routing o = o.named := set_ext fun g => by
    rw [Bool.eq_iff_iff, holds_routing, candidates_named (by rw [note]; simp)]
    exact ⟨fun x => x.2, fun x => ⟨attached g x, x⟩⟩
  rcases offer_cases s o with ⟨unrouted, _⟩ | ⟨_, _, _, e⟩ | ⟨_, _, _, e⟩ | ⟨_, _, _, _, e⟩ | ⟨_, _, _, _, e⟩
  · exact absurd (routing.symm.trans unrouted) some_target
  all_goals rw [e]; nofun

/-- Settles O18: the checks in their order, then the offer by what becomes of it. -/
theorem sendNoteOffersANote : Obligations.SendNoteOffersANote := by
  intro h tag payload s awaits attached
  have answers := attached_answeredWith (i := .sendNote h tag payload) (command := sendNoteReply) rfl rfl
    (fun _ _ => rfl) awaits attached
  rcases payload with _ | ⟨targets, note⟩
  · exact answers.refuses rfl
  dsimp only at answers ⊢
  refine answers.stage rfl (or_congr_left List.length_eq_zero_iff.symm) fun _ answers => ?_
  rw [hostSet?_eq] at answers
  by_cases fits : targets &&& 0xF0#8 = 0#8
  case neg =>
    rw [if_neg fits] at answers
    rw [if_pos (.inr fits)]
    exact answers.refuses rfl
  rw [if_pos fits] at answers
  dsimp only at answers
  refine answers.stage rfl ((setWidth_eq_zero fits).trans (or_iff_left (not_not.mpr fits)).symm)
    fun _ answers => ?_
  rw [restarted_attachedSet] at answers
  refine ⟨targets.setWidth 4 &&& s.attachedSet, holds_effective s targets, ?_⟩
  refine answers.stage rfl Iff.rfl fun some_target answers => ?_
  have routed := note_routed (s := s.restarted h)
    (o := noteOffer h s.hubTime note (targets.setWidth 4 &&& s.attachedSet)) rfl some_target fun g member =>
      (restarted_session_state s h g).trans ((holds_effective s targets g).mp member).2
  dsimp only [noteOffer] at answers routed ⊢
  split
  · rename_i unrouted
    exact routed unrouted
  · rename_i full
    rw [full] at answers
    exact answers.refuses rfl
  · rename_i missed result
    rw [result] at answers
    exact answers
  · rename_i recipients missed result
    rw [result, noteReply, restarted_nextSeq] at answers
    exact answers

end Sys2Proof.Machine
end

section
/-!
CLAIM. The requests of the Attention Unit: SET_ATTENTION and CLEAR_ATTENTION (O48).
-/

namespace Sys2Proof.Machine

variable {s : State}

/-! ### Cause sets and the output (R161, R164) -/

/-- With no bit above the causes, the byte of the causes that a byte names is the byte itself. -/
theorem causeSetByte_setWidth {b : Byte} (fits : b &&& 0xE0#8 = 0#8) : causeSetByte (b.setWidth 5) = b := by
  refine set_ext fun i => ?_
  by_cases low : i.val < 5
  · simp [causeSetByte, holds, low]
  · have masked : holds 0xE0#8 i = true := by revert i; decide
    have outside : holds b i = false := by
      simpa only [holds_and, masked, Bool.and_true] using set_eq_zero.mp fits i
    rw [outside]
    simp [causeSetByte, holds, low]

/-- The output of an ATTACHED host is asserted where a posted cause is enabled (R164). -/
theorem evaluate_attached {x : Session} (attached : x.state = .attached) (a : Attention) :
    a.evaluate x = { a with asserted := decide (a.posted &&& a.enabled ≠ 0#5) } := by
  have asserted : attentionCondition x a = decide (a.posted &&& a.enabled ≠ 0#5) := by
    rw [Bool.eq_iff_iff, attentionCondition_iff, decide_eq_true_iff]
    simp [attached]
  rw [Attention.evaluate, asserted]

theorem restarted_attached {h : HostId} (attached : s.isAttached h = true) :
    (s.restarted h).sessions[h].state = .attached :=
  (restarted_session_state s h h).trans ((isAttached_iff s h).mp attached)

/-- The stage of the check order that reads a cause set (R161). -/
theorem AnsweredWith.causeSet {i : Instr} {h : HostId} {b : Byte} {next : CauseSet → Reply} {p : Prop}
    (answers : AnsweredWith i s
      (match causeSet? b with
      | none => refuse (s.restarted h) .badArg
      | some causes => next causes))
    (caller : i.frame?.map RequestFrame.host = some h)
    (passed : b &&& 0xE0#8 = 0#8 → AnsweredWith i s (next (b.setWidth 5)) → p) :
    if b &&& 0xE0#8 ≠ 0#8 then Refuses i s .badArg else p := by
  unfold causeSet? at answers
  split
  · rename_i outside
    rw [if_neg outside] at answers
    exact answers.refuses caller
  · rename_i fits
    rw [if_pos (not_not.mp fits)] at answers
    exact passed (not_not.mp fits) answers

/-! ### SET_ATTENTION and CLEAR_ATTENTION (R165, R167) -/

/-- Settles O48, request by request: the checks in their order, then the sets and the output evaluated. -/
theorem attentionIsSetAndCleared : Obligations.AttentionIsSetAndCleared := by
  intro h tag payload s attached
  refine ⟨fun awaits => ?set, fun awaits => ?clear⟩
  case set =>
    have answers := attached_answeredWith (i := .setAttention h tag payload) (command := setAttentionReply)
      rfl rfl (fun _ _ => rfl) awaits attached
    rcases payload with _ | ⟨enabled, _ | ⟨threshold, _ | _⟩⟩
    case cons.cons.nil =>
      dsimp only at answers ⊢
      rw [ite_or]
      refine answers.causeSet rfl fun fits answers => ?_
      refine answers.stage rfl Iff.rfl fun _ answers => ?_
      rw [evaluate_attached (restarted_attached attached), causeSetByte_setWidth fits] at answers
      dsimp only [State.setAttention, State.setQueue] at answers
      rw [restarted_attention, restarted_queues] at answers
      exact answers
    all_goals exact answers.refuses rfl
  case clear =>
    have answers := attached_answeredWith (i := .clearAttention h tag payload) (command := clearAttentionReply)
      rfl rfl (fun _ _ => rfl) awaits attached
    rcases payload with _ | ⟨clear, _ | _⟩
    case cons.nil =>
      dsimp only at answers ⊢
      refine answers.causeSet rfl fun _ answers => ?_
      rw [evaluate_attached (restarted_attached attached)] at answers
      dsimp only [State.setAttention] at answers
      rw [restarted_attention] at answers
      exact answers
    all_goals exact answers.refuses rfl

end Sys2Proof.Machine
end

section
/-!
CLAIM. The CRC of a frame (O12): one byte is eight shifts of the CRC with the byte added, and a shift loses
nothing (R178).
-/

namespace Sys2Proof.Machine

/-! ### The CRC of a frame (R178) -/

/-- The CRC register shifted by one bit, the polynomial added where the bit shifted out is set (R178). -/
def crcShift (crc : Byte) : Byte := if crc.getLsbD 7 then (crc <<< 1) ^^^ 0x07#8 else crc <<< 1

/-- One bit of a byte taken in is a shift of the CRC with what is left of the byte added. -/
theorem crcBit_xor (b crc : Byte) {i : Nat} (inside : i < 8) :
    crcBit b crc i ^^^ (b <<< (i + 1)) = crcShift (crc ^^^ (b <<< i)) := by
  have top : (crc ^^^ (b <<< i)).getLsbD 7 = (crc.getLsbD 7 != b.getLsbD (7 - i)) := by
    have bit : (b <<< i).getLsbD 7 = b.getLsbD (7 - i) := by
      simp only [BitVec.getLsbD_shiftLeft, show ¬ 7 < i by omega, Nat.lt_add_one, decide_true, decide_false,
        Bool.not_false, Bool.true_and]
    rw [BitVec.getLsbD_xor, bit, Bool.bne_eq_xor]
  have shifted : (crc ^^^ (b <<< i)) <<< 1 = (crc <<< 1) ^^^ (b <<< (i + 1)) := by
    rw [BitVec.shiftLeft_xor_distrib, ← BitVec.shiftLeft_add]
  rw [crcBit, crcShift, top, shifted]
  split
  · rw [BitVec.xor_assoc, BitVec.xor_assoc, BitVec.xor_comm 0x07#8]
  · rfl

/-- Some bits of a byte taken in, from bit `i` below the top. -/
theorem crcBits_xor (b crc : Byte) (i n : Nat) (inside : i + n ≤ 8) :
    (List.range' i n).foldl (crcBit b) crc ^^^ (b <<< (i + n)) = crcShift^[n] (crc ^^^ (b <<< i)) := by
  induction n generalizing crc i with
  | zero => rfl
  | succ n ih =>
    have rest := ih (crcBit b crc i) (i + 1) (by omega)
    rw [crcBit_xor b crc (by omega)] at rest
    rw [List.range'_succ, List.foldl_cons, Function.iterate_succ_apply, ← rest]
    congr 2
    omega

/-- A byte taken in is the CRC with the byte added, shifted eight times. -/
theorem crcByte_eq (crc b : Byte) : crcByte crc b = crcShift^[8] (crc ^^^ b) := by
  have bits := crcBits_xor b crc 0 8 (by decide)
  have gone : b <<< (0 + 8) = 0#8 := BitVec.shiftLeft_eq_zero (by decide)
  rw [gone, BitVec.xor_zero, BitVec.shiftLeft_zero] at bits
  exact bits

/-- A shift loses nothing: the polynomial is odd, so the lowest bit tells the bit shifted out. -/
theorem crcShift_injective : Function.Injective crcShift := by
  intro x y same
  have lowest : ∀ c : Byte, (crcShift c).getLsbD 0 = c.getLsbD 7 := by
    intro c
    unfold crcShift
    split
    · rename_i out; rw [out]; simp
    · rename_i kept; rw [Bool.eq_false_iff.mpr kept]; simp
  have top : x.getLsbD 7 = y.getLsbD 7 := by rw [← lowest, ← lowest, same]
  have shifted : x <<< 1 = y <<< 1 := by
    unfold crcShift at same
    rw [top] at same
    split at same
    · exact BitVec.xor_left_inj _ |>.mp same
    · exact same
  refine BitVec.eq_of_getLsbD_eq fun i inside => ?_
  rcases Nat.lt_or_ge i 7 with low | high
  · have bit := congrArg (BitVec.getLsbD · (i + 1)) shifted
    simpa only [BitVec.getLsbD_shiftLeft, show i + 1 < 8 by omega, show ¬ i + 1 < 1 by omega, decide_true,
      decide_false, Bool.not_false, Bool.true_and, Nat.add_sub_cancel] using bit
  · obtain rfl : i = 7 := by omega
    exact top

theorem crcByte_left_injective (b : Byte) : Function.Injective (crcByte · b) := by
  intro x y same
  simp only [crcByte_eq] at same
  exact BitVec.xor_left_inj _ |>.mp (crcShift_injective.iterate 8 same)

theorem crcByte_right_injective (crc : Byte) : Function.Injective (crcByte crc) := by
  intro x y same
  rw [crcByte_eq, crcByte_eq] at same
  exact BitVec.xor_right_inj _ |>.mp (crcShift_injective.iterate 8 same)

/-- The CRC taken in by itself leaves 0. -/
theorem crcByte_self (crc : Byte) : crcByte crc crc = 0#8 := by
  rw [crcByte_eq, BitVec.xor_self]
  decide

theorem crc8_concat (bytes : List Byte) (b : Byte) : crc8 (bytes ++ [b]) = crcByte (crc8 bytes) b :=
  List.foldl_concat ..

/-- Bytes taken in keep different CRCs different. -/
theorem crcBytes_injective (bytes : List Byte) : Function.Injective (bytes.foldl crcByte ·) := by
  induction bytes with
  | nil => exact Function.injective_id
  | cons b bytes ih => exact ih.comp (crcByte_left_injective b)

/-- Settles O12: the changed byte changes the CRC, and the bytes after it keep the change. -/
theorem crcDetectsAnyChangedByte : Obligations.CrcDetectsAnyChangedByte := by
  refine ⟨fun bytes => ?_, fun before after b b' changed same => ?_, by simp [crc8, crcByte, crcBit]⟩
  · rw [crc8_concat, crcByte_self]
  · simp only [crc8, List.foldl_append, List.foldl_cons] at same
    exact changed (crcByte_right_injective _ (crcBytes_injective after same))

end Sys2Proof.Machine
end

section
/-!
CLAIM. UNKNOWN_COMMAND and REPEAT_RESPONSE, the edges of select, and the frames that are not taken
(O6, O7, O9, O10).
-/

namespace Sys2Proof.Machine

variable {s : State} {h : HostId}

/-! ### UNKNOWN_COMMAND (R183) and REPEAT_RESPONSE (R185) -/

/-- Settles O6: the row is the taking of its frame, and its command refuses whatever it is asked. -/
theorem unknownCommandIsAnswered : Obligations.UnknownCommandIsAnswered := by
  intro h code tag payload s outside awaits
  have row : exec (.unknownCommand h code tag payload) s = takeRow code unknownReply h tag payload s :=
    if_neg fun listed => outside (List.contains_iff_mem.mp listed)
  exact request_answers (i := .unknownCommand h code tag payload) rfl row awaits

/-- A REPEAT_RESPONSE taken: the port answers what it repeats, and only the caller's timer restarts (R185). -/
theorem takeRepeat_eq (s : State) (h : HostId) (tag : Byte) (payload : List Byte) :
    s.takeRepeat h tag payload = { s.restarted h with
      ports := s.ports.set h
        { s.ports[h] with
          receiver := .answering false (repeatAnswer tag s.hubTime payload s.ports[h].stored).frame 0
          sdo := some idleByte } } := by
  simp only [State.takeRepeat, restartTimer_eq, State.startAnswer, State.setPort, restarted_ports]

/-- Settles O7, with the answer that the model repeats. -/
theorem repeatResponseSendsTheStoredResponse : Obligations.RepeatResponseSendsTheStoredResponse := by
  intro h tag payload s awaits
  refine ⟨repeatAnswer tag s.hubTime payload s.ports[h].stored, fun given => if_pos given,
    fun empty nothing => ?_, fun empty stored found => ?_, ?_⟩
  · rw [nothing, empty]; rfl
  · rw [found, empty]; rfl
  · rw [← takeRepeat_eq]
    exact if_pos awaits

/-! ### Select (R174, R177) -/

theorem saturate_byte (x : Byte) : saturate x = if x = 0xFF#8 then 0xFF#8 else x + 1#8 := by
  have largest : BitVec.allOnes 8 = 0xFF#8 := rfl
  rw [saturate, largest]
  exact ite_congr rfl id fun _ => rfl

theorem setPort_setPort (s : State) (h : HostId) (p q : Port) : (s.setPort h p).setPort h q = s.setPort h q := by
  simp only [State.setPort, Vector.set_set]

theorem setPort_port (s : State) (h : HostId) (p : Port) : (s.setPort h p).ports[h] = p := Vector.getElem_set_self ..

/-- A frame in progress is discarded at the rise of select once it holds a byte (R177). -/
theorem midFrame_iff (p : Port) :
    p.midFrame = true ↔ ∃ byte bytes running, p.receiver = .receiving (byte :: bytes) running := by
  unfold Port.midFrame
  split
  · rename_i bytes running receiving
    cases bytes <;> simp [receiving]
  · rename_i other
    exact iff_of_false nofun fun ⟨_, _, _, receiving⟩ => other _ _ receiving

theorem discardFrame_eq (p : Port) : p.discardFrame = { p with
    selectLow := false, receiver := .deselected, sdo := none
    discarded := if p.discarded = 0xFF#8 then 0xFF#8 else p.discarded + 1#8 } := by
  rw [← saturate_byte]
  rfl

theorem selectRises_midFrame (mid : s.ports[h].midFrame = true) :
    exec (.selectRises h) s = .next (s.setPort h s.ports[h].discardFrame) := if_pos mid

theorem selectRises_quiet (quiet : ¬ s.ports[h].midFrame = true) :
    exec (.selectRises h) s = .next (s.setPort h s.ports[h].deselected) := if_neg quiet

/-- Settles O10, edge by edge. -/
theorem selectEdgesMoveTheReceiver : Obligations.SelectEdgesMoveTheReceiver := by
  intro h s
  refine ⟨fun high => if_neg (Bool.not_eq_true _ ▸ high), fun byte running bytes receiving => ?discard,
    fun other => ?rise, fun idle byte => ?unread⟩
  case discard =>
    have mid := (midFrame_iff _).mpr ⟨byte, bytes, running, receiving⟩
    refine ⟨s.setPort h s.ports[h].discardFrame, ?_, if_pos mid, selectRises_midFrame mid⟩
    rw [discardFrame_eq]
    rfl
  case rise =>
    refine selectRises_quiet fun mid => ?_
    obtain ⟨byte, bytes, running, receiving⟩ := (midFrame_iff _).mp mid
    exact other byte running bytes receiving
  case unread =>
    change execByteCompletes h byte s = _
    rw [execByteCompletes, idle]

/-! ### Frames that are not taken (R176, R179) -/

theorem skip_eq (p : Port) : p.skip = { p with
    receiver := .skipping, sdo := some 0xFF#8
    frameErrors := if p.frameErrors = 0xFF#8 then 0xFF#8 else p.frameErrors + 1#8 } := by
  rw [← saturate_byte]
  rfl

theorem failFrame_eq (s : State) (h : HostId) (tag : Byte) : s.failFrame h tag = s.setPort h { s.ports[h] with
    receiver := .answering false (Response.frame ⟨.frameError, tag, s.hubTime, []⟩) 0
    sdo := some 0xFF#8
    frameErrors := if s.ports[h].frameErrors = 0xFF#8 then 0xFF#8 else s.ports[h].frameErrors + 1#8 } := by
  rw [State.failFrame, State.startAnswer, setPort_setPort, setPort_port, ← saturate_byte]
  rfl

/-- What a byte does to a RECEIVING port (R174). -/
theorem byteCompletes_receiving {bytes : List Byte} {crc : Byte}
    (receiving : s.ports[h].receiver = .receiving bytes crc) (byte : Byte) :
    exec (.byteCompletes h byte) s = .next (s.receiveByte h bytes crc byte) := by
  change execByteCompletes h byte s = _
  rw [execByteCompletes, receiving]

/-- In FINISHED and SKIPPING every byte carries IDLE (R174). -/
theorem byteCompletes_idle (idle : s.ports[h].receiver = .finished ∨ s.ports[h].receiver = .skipping) (byte : Byte) :
    exec (.byteCompletes h byte) s = .next (s.setPort h { s.ports[h] with sdo := some idleByte }) := by
  change execByteCompletes h byte s = _
  rw [execByteCompletes]
  rcases idle with finished | skipping
  · rw [finished]
  · rw [skipping]

/-- A length byte above 200 refuses the frame, by its row and as a byte (R176, log 11). -/
theorem lengthByte_skips {code tag length running : Byte}
    (receiving : s.ports[h].receiver = .receiving [code, tag] running) (above : 200 < length.toNat) :
    exec (.frameRefusedForLength h length) s = .next (s.setPort h s.ports[h].skip) ∧
    exec (.byteCompletes h length) s = .next (s.setPort h s.ports[h].skip) := by
  constructor
  · change execFrameRefusedForLength h length s = _
    rw [execFrameRefusedForLength, receiving]
    exact if_pos above
  · rw [byteCompletes_receiving receiving]
    exact congrArg _ (if_pos above)

/-- A SKIPPING port ignores every byte, and counts nothing at the rise of select (R176). -/
theorem skip_stays (s : State) (h : HostId) (p : Port) :
    (∀ byte, exec (.byteCompletes h byte) (s.setPort h p.skip) = .next (s.setPort h p.skip)) ∧
    exec (.selectRises h) (s.setPort h p.skip) = .next (s.setPort h p.skip.deselected) := by
  have skipping : (s.setPort h p.skip).ports[h].receiver = .skipping := by rw [setPort_port]; rfl
  refine ⟨fun byte => ?_, ?_⟩
  · rw [byteCompletes_idle (.inr skipping), setPort_port, setPort_setPort]
    rfl
  · have noFrame : ¬ (s.setPort h p.skip).ports[h].midFrame = true := by rw [setPort_port]; nofun
    rw [selectRises_quiet noFrame, setPort_port, setPort_setPort]

/-- The length byte of a frame reads as the length of its payload (R175). -/
theorem numberByte_toNat {n : Nat} (fits : n ≤ 200) : (numberByte n).toNat = n :=
  (BitVec.toNat_ofNat ..).trans (Nat.mod_eq_of_lt (by omega))

/-- The CRC byte of a whole frame takes it when it is right and fails it when it is wrong (R179, R180). -/
theorem receiveByte_last (s : State) (h : HostId) {code tag : Byte} {payload : List Byte}
    (fits : payload.length ≤ 200) (running crc : Byte) :
    s.receiveByte h (requestBytes code tag payload) running crc =
      if crc = running then s.takeFrame h code tag payload else s.failFrame h tag := by
  have whole : ¬ payload.length < (numberByte payload.length).toNat := by rw [numberByte_toNat fits]; omega
  exact if_neg whole

theorem frameComplete_requestBytes (code tag : Byte) {payload : List Byte} (fits : payload.length ≤ 200) :
    frameComplete (requestBytes code tag payload) = true :=
  decide_eq_true (numberByte_toNat fits).le

/-- Settles O9: the length byte and the CRC byte, by their rows and as bytes. -/
theorem badFramesAreCountedAndNotTaken : Obligations.BadFramesAreCountedAndNotTaken := by
  refine ⟨fun h code tag length running s receiving above => ?_,
    fun h code tag payload running crc s fits receiving wrong => ?_⟩
  · obtain ⟨row, byte⟩ := lengthByte_skips receiving above
    obtain ⟨ignored, rise⟩ := skip_stays s h s.ports[h]
    exact ⟨s.ports[h].skip, skip_eq _, row, byte, ignored, rise⟩
  · refine ⟨s.failFrame h tag, failFrame_eq s h tag, ?_, ?_⟩
    · change execFrameError h crc s = _
      rw [execFrameError, receiving]
      exact if_pos (by rw [frameComplete_requestBytes code tag fits, Bool.true_and, bne_iff_ne]; exact wrong)
    · rw [byteCompletes_receiving receiving, receiveByte_last s h fits, if_neg wrong]

end Sys2Proof.Machine
end

section
/-!
CLAIM. A frame clocked in byte by byte is taken as its row (O8), and a response is clocked out in order (O11).
-/

namespace Sys2Proof.Machine

variable {s : State} {h : HostId}

/-! ### A frame byte by byte (R174, R175, R178, R180) -/

/-- A run of one step is that step. -/
theorem run_one (s : State) : Host.Core.run core 1 s = step s := by
  refine (Host.Core.run.eq_2 core s 0).trans ?_
  change _ = core.step s
  cases core.step s <;> rfl

/-- A port that has received some bytes of a frame, and has carried IDLE for them (R174, R175). -/
def Port.received (p : Port) (bytes : List Byte) : Port :=
  { p with selectLow := true, receiver := .receiving bytes (crc8 bytes), sdo := some idleByte }

/-- A byte that a frame in progress has room for is stored (R174 to R176). -/
theorem receiveByte_stores {bytes : List Byte} {crc byte : Byte}
    (length : bytes.length = 2 → byte.toNat ≤ maxPayload)
    (room : ∀ length ∈ bytes[2]?, bytes.length < 3 + length.toNat) :
    s.receiveByte h bytes crc byte = s.setPort h (s.ports[h].storeByte bytes crc byte) := by
  match bytes with
  | [] | [_] => rfl
  | [_, _] => exact if_neg (Nat.not_lt.mpr (length rfl))
  | _ :: _ :: n :: payload =>
    have holds_more : payload.length < n.toNat := by
      have := room n rfl
      simp only [List.length_cons] at this
      omega
    exact if_pos holds_more

/-- Every byte of a request frame comes while the frame in progress has room for it (R175, R176). -/
theorem requestBytes_room {code tag byte : Byte} {payload received rest : List Byte} (fits : payload.length ≤ 200)
    (frame : received ++ byte :: rest = requestBytes code tag payload) :
    (received.length = 2 → byte.toNat ≤ maxPayload) ∧
    ∀ length ∈ received[2]?, received.length < 3 + length.toNat := by
  match received with
  | [] | [_] => simp
  | [_, _] =>
    simp only [requestBytes, List.cons_append, List.nil_append, List.cons.injEq] at frame
    obtain ⟨_, _, lengthByte, _⟩ := frame
    rw [lengthByte, numberByte_toNat fits]
    exact ⟨fun _ => fits, nofun⟩
  | _ :: _ :: length :: more =>
    simp only [requestBytes, List.cons_append, List.cons.injEq] at frame
    obtain ⟨_, _, lengthByte, whole⟩ := frame
    refine ⟨nofun, ?_⟩
    rintro _ ⟨⟩
    rw [lengthByte, numberByte_toNat fits, ← whole]
    simp only [List.length_append, List.length_cons]
    omega

/-- One more byte of a frame is received (R174, R175). -/
theorem byteCompletes_received {bytes : List Byte} {byte : Byte} (p : Port)
    (length : bytes.length = 2 → byte.toNat ≤ maxPayload)
    (room : ∀ length ∈ bytes[2]?, bytes.length < 3 + length.toNat) :
    exec (.byteCompletes h byte) (s.setPort h (p.received bytes)) =
      .next (s.setPort h (p.received (bytes ++ [byte]))) := by
  have receiving : (s.setPort h (p.received bytes)).ports[h].receiver = .receiving bytes (crc8 bytes) := by
    rw [setPort_port]; rfl
  rw [byteCompletes_receiving receiving, receiveByte_stores length room, setPort_setPort, setPort_port,
    Port.storeByte, ← crc8_concat]
  rfl

/-- The code byte of a frame is received on a port just selected (R174, R175). -/
theorem byteCompletes_selected (p : Port) (code : Byte) :
    exec (.byteCompletes h code) (s.setPort h p.selected) = .next (s.setPort h (p.received [code])) := by
  have receiving : (s.setPort h p.selected).ports[h].receiver = .receiving [] 0#8 := by rw [setPort_port]; rfl
  rw [byteCompletes_receiving receiving, receiveByte_stores (by simp) (by simp), setPort_setPort, setPort_port]
  rfl

/-- The bytes of a frame are received one by one, whatever command comes after them. -/
theorem run_received {code tag : Byte} {payload : List Byte} (fits : payload.length ≤ 200) (p : Port)
    (n : Nat) (rest : List Instr) (todo received : List Byte)
    (frame : received ++ todo = requestBytes code tag payload) :
    Host.Core.run core (todo.length + n)
      { s.setPort h (p.received received) with pending := todo.map (.byteCompletes h) ++ rest } =
    Host.Core.run core n
      { s.setPort h (p.received (requestBytes code tag payload)) with pending := rest } := by
  induction todo generalizing received with
  | nil =>
    rw [← frame, List.append_nil, List.length_nil, Nat.zero_add]
    rfl
  | cons byte todo ih =>
    obtain ⟨length, room⟩ := requestBytes_room fits frame
    have taken := byteCompletes_received (s := { s with pending := todo.map (.byteCompletes h) ++ rest })
      (h := h) p length room
    rw [List.length_cons, Nat.add_right_comm]
    refine (run_next (s.setPort h (p.received received)) taken).trans ?_
    exact ih (received ++ [byte]) (by rw [← frame, List.append_assoc]; rfl)

/-- A well-formed request row is not UNKNOWN_COMMAND with a code of the table (R183). -/
theorem known_of_wellFormed {i : Instr} (wellFormed : i.wellFormed = true) : Instr.known i = true := by
  cases i
  case unknownCommand => exact (Bool.and_eq_true_iff.mp wellFormed).2
  all_goals rfl

/-- A request frame carries at most 200 payload bytes (R175, R176). -/
theorem frame_fits {i : Instr} {f : RequestFrame} (wellFormed : i.wellFormed = true) (frame : i.frame? = some f) :
    f.payload.length ≤ 200 := by
  cases i
  case unknownCommand =>
    cases frame
    exact of_decide_eq_true (Bool.and_eq_true_iff.mp wellFormed).1
  all_goals cases frame <;> exact of_decide_eq_true wellFormed

/-- The right CRC byte of a whole frame does what the frame's row does (R180, log 11). -/
theorem byteCompletes_eq_row {i : Instr} {f : RequestFrame} (wellFormed : i.wellFormed = true)
    (frame : i.frame? = some f) {running : Byte}
    (receiving : s.ports[f.host].receiver = .receiving (requestBytes f.code f.tag f.payload) running) :
    exec (.byteCompletes f.host running) s = exec i s := by
  have fits := frame_fits wellFormed frame
  have awaits : s.ports[f.host].awaitsCrc f.code f.tag f.payload = true := by
    rw [Port.awaitsCrc, receiving]
    simpa using fits
  rw [byteCompletes_receiving receiving, receiveByte_last s f.host fits, if_pos rfl, exec_request frame,
    known_of_wellFormed wellFormed, awaits]
  rfl

/-- Settles O8: select falls, each byte of the frame is received, and the CRC byte does what the row does. -/
theorem wholeFrameIsTakenAsItsRow : Obligations.WholeFrameIsTakenAsItsRow := by
  intro i f s rest wellFormed frame high
  obtain ⟨h, code, tag, payload⟩ := f
  dsimp only at high ⊢
  let todo : List Byte := tag :: numberByte payload.length :: payload
  let crc := crc8 (requestBytes code tag payload)
  let last : List Instr := .byteCompletes h crc :: rest
  have fits : payload.length ≤ 200 := frame_fits wellFormed frame
  have falls : exec (.selectFalls h) { s with
        pending := .byteCompletes h code :: (todo.map (.byteCompletes h) ++ last) } =
      .next { s.setPort h s.ports[h].selected with
        pending := .byteCompletes h code :: (todo.map (.byteCompletes h) ++ last) } :=
    if_neg (by rw [high]; decide)
  have first := byteCompletes_selected (s := { s with pending := todo.map (.byteCompletes h) ++ last })
    (h := h) s.ports[h] code
  have whole : ({ s.setPort h (s.ports[h].received (requestBytes code tag payload)) with pending := rest } :
      State).ports[h].receiver = .receiving (requestBytes code tag payload) crc := by
    change (s.setPort h _).ports[h].receiver = _
    rw [setPort_port]
    rfl
  have received := calc
    Host.Core.run core ((requestBytes code tag payload).length + 2) { s with
        pending := .selectFalls h ::
          (requestBytes code tag payload ++ [crc]).map (.byteCompletes h) ++ rest }
    _ = Host.Core.run core (todo.length + 1 + 2) { s with
          pending := .selectFalls h :: .byteCompletes h code :: (todo.map (.byteCompletes h) ++ last) } := by
        rw [List.map_append, List.cons_append, List.append_assoc]; rfl
    _ = Host.Core.run core (todo.length + 1 + 1) { s.setPort h s.ports[h].selected with
          pending := .byteCompletes h code :: (todo.map (.byteCompletes h) ++ last) } := run_next s falls
    _ = Host.Core.run core (todo.length + 1) { s.setPort h (s.ports[h].received [code]) with
          pending := todo.map (.byteCompletes h) ++ last } := run_next (s.setPort h s.ports[h].selected) first
    _ = Host.Core.run core 1 { s.setPort h (s.ports[h].received (requestBytes code tag payload)) with
          pending := last } := run_received fits _ 1 last todo [code] rfl
  exact received.trans ((run_one _).trans (byteCompletes_eq_row wellFormed frame whole))

/-! ### A response byte by byte (R174, R181, R188) -/

/-- What a byte does to an ANSWERING port (R181). -/
theorem byteCompletes_answering {ready : Bool} {left : List Byte} {age : Nat}
    (answering : s.ports[h].receiver = .answering ready left age) (byte : Byte) :
    exec (.byteCompletes h byte) s = .next (s.sendByte h ready left age) := by
  change execByteCompletes h byte s = _
  rw [execByteCompletes, answering]

/-- Once more than four ticks have passed START is sent (R181, log 9). -/
theorem sendByte_surely (s : State) (h : HostId) (first : Byte) (left : List Byte) {age : Nat} (old : 4 < age) :
    s.sendByte h false (first :: left) age =
      s.setPort h { s.ports[h] with receiver := .answering true left age, sdo := some first } := by
  simp only [State.sendByte, surelyReady, old, decide_true, Bool.not_true, Bool.and_false, Bool.or_true,
    Bool.true_or, Bool.false_eq_true, if_false, if_true]

/-- Before that a free value says whether START or WAIT is sent (R181, log 9). -/
theorem sendByte_perhaps (s : State) (h : HostId) (first : Byte) (left : List Byte) {age : Nat} (young : age ≤ 4) :
    s.sendByte h false (first :: left) age =
      if Config.responseReady s.draws then
        { s with draws := s.draws + 1 }.setPort h
          { s.ports[h] with receiver := .answering true left age, sdo := some first }
      else { s with draws := s.draws + 1 }.setPort h { s.ports[h] with sdo := some waitByte } := by
  simp only [State.sendByte, surelyReady, Nat.not_lt.mpr young, decide_false, Bool.not_false, Bool.and_true,
    Bool.or_false, Bool.false_or, if_true]

theorem setPort_self (s : State) (h : HostId) : s.setPort h s.ports[h] = s := by
  simp only [State.setPort, Fin.getElem_fin, Vector.set_getElem_self]

/-- A port in the midst of its response, with the bytes still to come and the byte last carried (R181). -/
def Port.sending (p : Port) (left : List Byte) (age : Nat) (carried : Option Byte) : Port :=
  { p with receiver := .answering true left age, sdo := carried }

/-- From START on each byte carries the next of the response (R181). -/
theorem byteCompletes_sending (p : Port) (byte next : Byte) (left : List Byte) (age : Nat) (carried : Option Byte) :
    exec (.byteCompletes h byte) (s.setPort h (p.sending (next :: left) age carried)) =
      .next (s.setPort h (p.sending left age (some next))) := by
  have answering : (s.setPort h (p.sending (next :: left) age carried)).ports[h].receiver =
      .answering true (next :: left) age := by rw [setPort_port]; rfl
  rw [byteCompletes_answering answering]
  refine congrArg _ ((setPort_setPort ..).trans ?_)
  rw [setPort_port]
  rfl

/-- Bytes clocked carry as many bytes of the response, in order (R181). -/
theorem run_sending (p : Port) (age : Nat) (left sent clocked : List Byte) (same : clocked.length = sent.length)
    (carried : Option Byte) :
    Host.Core.run core clocked.length { s.setPort h (p.sending (sent ++ left) age carried) with
        pending := clocked.map (.byteCompletes h) } =
      .next { s.setPort h (p.sending left age (sent.getLast?.or carried)) with pending := [] } := by
  induction clocked generalizing sent carried with
  | nil =>
    obtain rfl := List.eq_nil_of_length_eq_zero same.symm
    rfl
  | cons byte clocked ih =>
    match sent with
    | next :: sent =>
      have taken := byteCompletes_sending (s := { s with pending := clocked.map (.byteCompletes h) }) (h := h)
        p byte next (sent ++ left) age carried
      refine (run_next (s.setPort h (p.sending (next :: sent ++ left) age carried)) taken).trans ?_
      refine (ih sent (Nat.succ.inj same) (some next)).trans ?_
      rw [List.getLast?_cons, Option.or_some]
      rfl

/-- RESPONSE_SENT ends a response in all of ANSWERING (R181, log 12). -/
theorem responseSent_answering {ready : Bool} {left : List Byte} {age : Nat}
    (answering : s.ports[h].receiver = .answering ready left age) :
    exec (.responseSent h) s = .next (s.setPort h (s.ports[h].finish left)) := by
  change execResponseSent h s = _
  rw [execResponseSent, answering]

/-- Settles O11: the layout of a response, then the bytes before START, from START on, the end, and after it. -/
theorem responseIsClockedOutInOrder : Obligations.ResponseIsClockedOutInOrder := by
  refine ⟨fun _ => rfl, fun h s byte first left age answering => ⟨fun old => ?surely, fun young => ?perhaps⟩,
    fun h s clocked sent left age answering same => ?order, fun h s ready age => ⟨fun answering => ?sent,
    fun left last answering => ?cut⟩, fun h s byte idle => byteCompletes_idle idle byte⟩
  case surely => rw [byteCompletes_answering answering, sendByte_surely s h first left old]; rfl
  case perhaps =>
    rw [byteCompletes_answering answering, sendByte_perhaps s h first left young]
    split
    · exact .inr rfl
    · exact .inl rfl
  case order =>
    have started : s.ports[h].sending (sent ++ left) age s.ports[h].sdo = s.ports[h] := by
      rw [Port.sending, ← answering]
    have run := run_sending (s := s) (h := h) s.ports[h] age left sent clocked same s.ports[h].sdo
    rw [started, setPort_self] at run
    refine run.trans ?_
    cases sent.getLast? <;> rfl
  case sent => exact responseSent_answering answering
  case cut =>
    rw [responseSent_answering answering, Port.finish, List.getLast?_concat]
    rfl

end Sys2Proof.Machine
end

section
/-!
CLAIM. An event entry has the layout of R189 and decodes to what it was made of (O27).
-/

namespace Sys2Proof.Machine

/-! ### A decoder of event entries (R189) -/

/-- The thirteen kinds (R5). -/
def allKinds : List Kind :=
  [.lineRise, .lineFall, .watchMatch, .watchTimeout, .note, .hostAttached, .hostDetached, .hostLost,
    .hostEvicted, .timeWrap, .timeAdjusted, .outputSeized, .reflexFired]

/-- The kind of a kind code (R189). -/
def kind? (b : Byte) : Option Kind := allKinds.find? fun k => k.code == b

/-- The source of a source code (R189). -/
def source? (b : Byte) : Option Source :=
  if b.toNat < 0x10 then (numbered 16 b).map .line
  else if b.toNat < 0x20 then (numbered 16 (b - 0x10#8)).map .watch
  else if b.toNat < 0x30 then (numbered 4 (b - 0x20#8)).map .host
  else if b = 0x30#8 then some .hub
  else (numbered 8 (b - 0x40#8)).map .output

/-- The detail of a record of a kind, from its bytes (R189). -/
def detail? : Kind → List Byte → Option Detail
  | .lineRise, [b1, b0] | .lineFall, [b1, b0] => some (.line (half b1 b0) none)
  | .lineRise, [b1, b0, n1, n0] | .lineFall, [b1, b0, n1, n0] => some (.line (half b1 b0) (some (half n1 n0)))
  | .watchMatch, [tag, b1, b0, n1, n0] | .watchTimeout, [tag, b1, b0, n1, n0] =>
    some (.watch tag (half b1 b0) (half n1 n0))
  | .note, bytes => some (.note bytes)
  | .hostAttached, [number] | .hostDetached, [number] | .hostLost, [number] => some (.session number)
  | .hostEvicted, [number, host] => (numbered 4 host).map (.evicted number)
  | .timeWrap, [b1, b0] => some (.wrap (half b1 b0))
  | .timeAdjusted, [b3, b2, b1, b0, host] => (numbered 4 host).map (.adjusted (word b3 b2 b1 b0))
  | .outputSeized, [host] => (numbered 4 host).map .seized
  | .reflexFired, [line, level] => (numbered 16 line).bind fun l => (level? level).map (.reflex l)
  | _, _ => none

/-- What an entry shows of its record, and its own missed-before count (R189). -/
structure ShownEntry where
  seq : Half
  kind : Kind
  source : Source
  timestamp : HubTime
  detail : Detail
  missed : Half

/-- The entry at the front of some bytes, and the bytes that follow it. -/
def entry? : List Byte → Option (ShownEntry × List Byte)
  | s1 :: s0 :: k :: o :: t3 :: t2 :: t1 :: t0 :: m1 :: m0 :: n :: tail =>
    (kind? k).bind fun kind =>
      (source? o).bind fun source =>
        (detail? kind (tail.take n.toNat)).map fun detail =>
          (⟨half s1 s0, kind, source, word t3 t2 t1 t0, detail, half m1 m0⟩, tail.drop n.toNat)
  | _ => none

theorem kind?_code (k : Kind) : kind? k.code = some k := by cases k <;> rfl

theorem source?_code (x : Source) : source? x.code = some x := by
  cases x with
  | line l => revert l; decide
  | watch w => revert w; decide
  | host h => revert h; decide
  | hub => rfl
  | output o => revert o; decide

/-- A 4-byte field reads back as it was written (R188). -/
theorem word_wordBytes (x : HubTime) :
    word (x.extractLsb' 24 8) (x.extractLsb' 16 8) (x.extractLsb' 8 8) (x.extractLsb' 0 8) = x := by
  have upper : x.extractLsb' 24 8 ++ x.extractLsb' 16 8 = x.extractLsb' 16 16 :=
    BitVec.extractLsb'_append_extractLsb'_eq_extractLsb' rfl
  have upper3 : x.extractLsb' 16 16 ++ x.extractLsb' 8 8 = x.extractLsb' 8 24 :=
    BitVec.extractLsb'_append_extractLsb'_eq_extractLsb' rfl
  rw [word, upper, upper3]
  exact BitVec.extractLsb'_append_extractLsb'

/-- The detail of a record with the detail of its kind reads back as it was written (R189). -/
theorem detail?_bytes {r : Record} (formed : r.formed = true) : detail? r.kind r.detail.bytes = some r.detail := by
  unfold Record.formed at formed
  split at formed
  case h_14 => cases formed
  all_goals rename_i kind _ detail; rw [kind, detail]
  case h_1 | h_2 =>
    rename_i snapshot count _
    cases count <;> simp only [Detail.bytes, halfBytes, List.cons_append, List.nil_append, detail?, half_halfBytes]
  case h_3 | h_4 => simp only [Detail.bytes, halfBytes, List.cons_append, List.nil_append, detail?, half_halfBytes]
  case h_10 => simp only [Detail.bytes, halfBytes, detail?, half_halfBytes]
  case h_5 | h_6 | h_7 | h_8 => rfl
  case h_9 | h_12 => simp [Detail.bytes, detail?, numbered_numberByte]
  case h_11 => simp [Detail.bytes, wordBytes, detail?, word_wordBytes, numbered_numberByte]
  case h_13 => simp [Detail.bytes, detail?, numbered_numberByte, level?_byte]

/-- A record with the detail of its kind has at most 8 detail bytes (R8, R189). -/
theorem detail_length {r : Record} (formed : r.formed = true) : r.detail.bytes.length ≤ 8 := by
  unfold Record.formed at formed
  split at formed
  case h_14 => cases formed
  all_goals rename_i kind _ detail; rw [detail]
  case h_1 | h_2 =>
    rename_i snapshot count _
    cases count <;> simp [Detail.bytes, halfBytes]
  case h_5 => exact (of_decide_eq_true formed).2
  all_goals simp [Detail.bytes, halfBytes, wordBytes]

/-- An entry decodes to what it was made of, and to the bytes that follow it (R189). -/
theorem entry?_entryBytes {r : Record} (formed : r.formed = true) (missed : Half) (rest : List Byte) :
    entry? (entryBytes r missed ++ rest) =
      some (⟨r.seq, r.kind, r.source, r.timestamp, r.detail, missed⟩, rest) := by
  have size : (numberByte r.detail.bytes.length).toNat = r.detail.bytes.length :=
    numberByte_toNat (Nat.le_trans (detail_length formed) (by decide))
  have laid : entryBytes r missed ++ rest =
      r.seq.extractLsb' 8 8 :: r.seq.extractLsb' 0 8 :: r.kind.code :: r.source.code ::
        r.timestamp.extractLsb' 24 8 :: r.timestamp.extractLsb' 16 8 :: r.timestamp.extractLsb' 8 8 ::
        r.timestamp.extractLsb' 0 8 :: missed.extractLsb' 8 8 :: missed.extractLsb' 0 8 ::
        numberByte r.detail.bytes.length :: (r.detail.bytes ++ rest) := rfl
  rw [laid, entry?, kind?_code, Option.bind_some, source?_code, Option.bind_some, size, List.take_left,
    List.drop_left, detail?_bytes formed, Option.map_some, half_halfBytes, half_halfBytes, word_wordBytes]

/-- Settles O27: the layout from the definition of an entry, and the rest from its decoder. -/
theorem eventEntriesDecodeUniquely : Obligations.EventEntriesDecodeUniquely := by
  refine ⟨fun r missed formed => ⟨r.detail.bytes, detail_length formed, ?_, ?_⟩,
    fun r r' missed missed' rest rest' formed formed' same => ?_⟩
  · cases r.detail with
    | line snapshot count => cases count <;> rfl
    | reflex line level => cases level <;> rfl
    | _ => rfl
  · rfl
  · have decoded := congrArg entry? same
    rw [entry?_entryBytes formed, entry?_entryBytes formed'] at decoded
    obtain ⟨shown, following⟩ := Prod.mk.inj (Option.some.inj decoded)
    obtain ⟨seq, kind, source, timestamp, detail, misses⟩ := ShownEntry.mk.inj shown
    exact ⟨seq, kind, source, timestamp, detail, misses, following⟩

end Sys2Proof.Machine
end
